-- ==== Sys2Proof/Word.lean ====
section
/-! DEFINITION. Words of the part: 16-bit words, bytes and 32-bit quantities (00_scope 3.1). -/

namespace Sys2Proof

/-- A word is 16 bits (00_scope 3.1). -/
abbrev Word := BitVec 16

/-- A byte-wide field. -/
abbrev Byte := BitVec 8

/-- A 32-bit quantity, two consecutive words (00_scope 3.1). -/
abbrev DWord := BitVec 32

/-- Eight like things, one for each denomination (R123). -/
abbrev Eight (α : Type) := Vector α 8

/-- The "high byte" of a word (00_scope 3.1). -/
def hiByte (w : Word) : Byte := w.extractLsb' 8 8

/-- The "low byte" of a word. -/
def loByte (w : Word) : Byte := w.extractLsb' 0 8

/-- A word of two byte-wide fields, the high byte named first. -/
def mkWord (hi lo : Byte) : Word := hi ++ lo

/-- The low word of a 32-bit quantity. -/
def loWord (d : DWord) : Word := d.extractLsb' 0 16

/-- The high word of a 32-bit quantity. -/
def hiWord (d : DWord) : Word := d.extractLsb' 16 16

/-- The 32-bit quantity of two words, low word first. -/
def mkDWord (lo hi : Word) : DWord := hi ++ lo

/-- A word that holds a flag: 1 when set, 0 when clear (R185). -/
def flagWord (b : Bool) : Word := if b then 1 else 0

/-- Eight equal things. -/
def Eight.all {α : Type} (a : α) : Eight α := Vector.replicate 8 a

/-- The sum of eight counts, exactly. -/
def Eight.total (v : Eight Word) : Nat := (v.toList.map BitVec.toNat).sum

end Sys2Proof
end

