-- ==== Sys2Proof/Syntax.lean ====
section
/-! DEFINITION. The commands of the part, one constructor for each row of spec/opcode_table.json.
The operands are the model's, from the rules each row names; no row gives bits. -/

namespace Sys2Proof

/-- The three debounced machine lines (R136). -/
inductive Line where
  | door
  | box
  | key
deriving DecidableEq, Repr

/-- One host access (section 2.2): the word address A23-A1, the byte enables BE1 (high byte) and BE0
(low byte), and for a write the data on D15-D0. -/
structure Access where
  word : BitVec 23
  hi : Bool
  lo : Bool
  /-- `none` for a read, the data driven for a write. -/
  data : Option Word
deriving DecidableEq, Repr

/-- The work in progress that a reset may cut short (R47). -/
inductive Work where
  | host (a : Access)
  | groupWrite
  | imageRewrite
  | commitWaitEnd
  | commitPermitStep
  | amendment
  | closeStep
  | closeEnd
  | periodClose
  | periodCloseStep
  | lineChange (l : Line)
  | minuteMark
  | changeover
  | dailyCheck
  | startUp
  /-- `left` as in the FLASH_WAIT_LIMIT row (log 11). -/
  | flashWaitLimit (left : List Word)
  | flashOpEnd
  | fbusyWaitLimit
  /-- `left` as in the FBUSY_DEASSERTED row (log 11). -/
  | fbusyDeasserted (left : List Word)
  | lineSettled (l : Line)
  | lineSettleLimit
deriving DecidableEq, Repr

/-- What a reset cuts short: nothing, or a piece of work of which the first `words` word writes have
reached memory (R47, log 12). -/
inductive Cut where
  | nothing
  | during (work : Work) (words : Nat)
deriving DecidableEq, Repr

/-- The commands. -/
inductive Instr where
  /-- HOST_PASS_THROUGH (R26). -/
  | hostPassThrough (access : Access)
  /-- HELD_READ (R37). -/
  | heldRead (word : BitVec 23) (hi lo : Bool)
  /-- DELAYED_READ_REPEAT (R38). -/
  | delayedReadRepeat (word : BitVec 23) (hi lo : Bool)
  /-- INPUT_CELL_WRITE (R28). -/
  | inputCellWrite (word : BitVec 23) (hi lo : Bool) (data : Word)
  /-- PERMIT_NO (R94): a write to the low word, or to the high word when `second`. -/
  | permitNo (second : Bool) (hi lo : Bool) (data : Word)
  /-- TIME_LO (R176). -/
  | timeLo (hi lo : Bool) (data : Word)
  /-- JEXPORT_LOW (R131). -/
  | jexportLow (hi lo : Bool) (data : Word)
  /-- OWNED_CELL_WRITE (R30). -/
  | ownedCellWrite (word : BitVec 23) (hi lo : Bool) (data : Word)
  /-- BOOK_WINDOW_WRITE (R33). -/
  | bookWindowWrite (word : BitVec 23) (hi lo : Bool) (data : Word)
  /-- OPEN (R5). -/
  | openSale
  /-- COMMIT (R7). -/
  | commit
  /-- COMMIT_WAIT_END (R8). -/
  | commitWaitEnd
  /-- ABANDON (R12). -/
  | abandon
  /-- CLEAR (R13). -/
  | clear
  /-- SALE_CMD_UNKNOWN (R4). -/
  | saleCmdUnknown (value : Word)
  /-- COIN_IN (R14). -/
  | coinIn (index : Word)
  /-- CARD_IN (R15). -/
  | cardIn (pence : Word)
  /-- CHECK (R96). -/
  | check
  /-- DROP (R97). -/
  | drop
  /-- PERMIT_REQ_UNKNOWN (R97). -/
  | permitReqUnknown (value : Word)
  /-- TIME (R176): the word written to TIME_HI. -/
  | time (high : Word)
  /-- SALES_OFF (R164): the high byte is not used. -/
  | salesOff (high : Byte)
  /-- SALES_ON (R164): the high byte is not used. -/
  | salesOn (high : Byte)
  /-- CLEAR_STOP (R164): the high byte is the condition number. -/
  | clearStop (condition : Byte)
  /-- SERVICE_CMD_UNKNOWN (R164). -/
  | serviceCmdUnknown (value : Word)
  /-- AUTHORISE (R143). -/
  | authorise
  /-- CLEAR_INTRUSION (R145). -/
  | clearIntrusion
  /-- COLLECT_CMD_UNKNOWN (R143). -/
  | collectCmdUnknown (value : Word)
  /-- INSTALL_BEGIN (R76). -/
  | installBegin
  /-- INSTALL_END (R80). -/
  | installEnd
  /-- INSTALL_ABORT (R81). -/
  | installAbort
  /-- CANCEL_PENDING (R81). -/
  | cancelPending
  /-- BOOK_CMD_UNKNOWN (R75). -/
  | bookCmdUnknown (value : Word)
  /-- POP (R157). -/
  | pop
  /-- FAULT_CMD_UNKNOWN (R157). -/
  | faultCmdUnknown (value : Word)
  /-- REPORT (R158). -/
  | report (code : Word)
  /-- REPORT_BAD_CODE (R158). -/
  | reportBadCode (value : Word)
  /-- ATTN_EOS (R171). -/
  | attnEos (value : Word)
  /-- ATTN_ENABLE (R172). -/
  | attnEnable (value : Word)
  /-- ATTN_TAKE (R170): a host read of the cell. -/
  | attnTake (hi lo : Bool)
  /-- JEXPORT (R131): the word written to the high word of JEXPORT. -/
  | jexport (high : Word)
  /-- PEXPORT (R148). -/
  | pexport (mark : Word)
  /-- AMEND_TAIL (R109). -/
  | amendTail (tail : Word)
  /-- GROUP_WRITE (R36). -/
  | groupWrite
  /-- IMAGE_REWRITE (R36). -/
  | imageRewrite
  /-- MEMORY_PORT_GRANT (R42): whether a host access that reaches memory waits. -/
  | memoryPortGrant (hostWaits : Bool)
  /-- STALE_READ (R39). -/
  | staleRead
  /-- BAND_STEP (R55). -/
  | bandStep
  /-- PRICE_RUN_COMPLETE (R64). -/
  | priceRunComplete
  /-- SEARCH_SEEK (R98). -/
  | searchSeek
  /-- SEARCH_SCAN (R99). -/
  | searchScan
  /-- COMMIT_PERMIT_STEP (R105). -/
  | commitPermitStep
  /-- ADD (R113). -/
  | add
  /-- REPLACE (R114). -/
  | replace
  /-- REVOKE (R115). -/
  | revoke
  /-- DELETE (R116). -/
  | delete
  /-- ROLL_CLEAR (R117). -/
  | rollClear
  /-- BAD_OP (R111). -/
  | badOp
  /-- SCRUB_STEP (R121). -/
  | scrubStep
  /-- CLOSE_STEP (R133). -/
  | closeStep
  /-- CLOSE_END (R134). -/
  | closeEnd
  /-- PERIOD_CLOSE (R146). -/
  | periodClose
  /-- PERIOD_CLOSE_STEP (R147). -/
  | periodCloseStep
  /-- CHANGEOVER (R84). -/
  | changeover
  /-- DAILY_CHECK (R85). -/
  | dailyCheck
  /-- FLASH_OP_END (R74). -/
  | flashOpEnd
  /-- FLASH_WAIT_LIMIT (R74): what the flash has left of the operation's words (log 11). -/
  | flashWaitLimit (left : List Word)
  /-- RAW_LINE_CHANGE (R136): the raw level of a line becomes `level`. -/
  | rawLineChange (line : Line) (level : Bool)
  /-- LINE_CHANGE (R136). -/
  | lineChange (line : Line)
  /-- MINUTE_MARK (R175). -/
  | minuteMark
  /-- IDLE_TIMEOUT (R19). -/
  | idleTimeout
  /-- AUTHORISATION_END (R144). -/
  | authorisationEnd
  /-- POWER_ON (R178). -/
  | powerOn (cut : Cut)
  /-- HOST_RESET (R178). -/
  | hostReset (cut : Cut)
  /-- START_UP (R179). -/
  | startUp
  /-- FBUSY_WAIT_LIMIT (R179). -/
  | fbusyWaitLimit
  /-- LINE_SETTLE_LIMIT (R182). -/
  | lineSettleLimit
  /-- PATH_RUNNING (R45). -/
  | pathRunning
  /-- FBUSY_DEASSERTED (R74): what the flash has left of an abandoned operation's words (log 11). -/
  | fbusyDeasserted (left : List Word)
  /-- LINE_SETTLED (R136). -/
  | lineSettled (line : Line)
deriving DecidableEq, Repr

end Sys2Proof
end

