-- ==== Sys2Proof/Decode.lean ====
section
/-! DEFINITION. The commands that words spell by spec/opcode_table.json. No row of the table gives
bits, so no word spells a command. -/

namespace Sys2Proof

/-- The command a word spells by the table's bits: no row gives bits, so none. -/
def decodeTableWord (_nbits _w : Nat) : Option Instr := none

end Sys2Proof
end

