-- ==== Sys2Proof/Config.lean ====
section
/-! DEFINITION. The values the spec leaves open. They have no body, so no proof can see them. -/

namespace Sys2Proof.Config

/-- FREE VALUE (log 10): a 16-bit field that takes an exact sum of 65536 or more, where the spec does
not say that the field stays at 65535. Applied to the exact sum. -/
opaque outOfRange16 : Nat → Word

/-- FREE VALUE (log 10): a 32-bit field that takes an exact sum of 2^32 or more. Applied to the sum. -/
opaque outOfRange32 : Nat → DWord

/-- FREE VALUE (log 10): a record count (R112) lowered below 0. Applied to the count and the fall. -/
opaque countBelowZero : Nat → Nat → Word

end Sys2Proof.Config
end

