-- ==== Sys2Proof/Machine/State.lean ====
section
/-! DEFINITION. The state of the part: every register, buffer, timer, mode and pin the spec gives it,
unit by unit (00_scope 2.2), with flash and SRAM and the queue of commands. Plain data. -/

namespace Sys2Proof.Machine

/-! ## Path unit -/

/-- The path modes (section 2.7). -/
inductive PathMode where
  | starting
  | running
  | transparent
deriving DecidableEq, Repr

/-- The five windows (R25). -/
inductive Window where
  | sale
  | control
  | cash
  | roll
  | book
deriving DecidableEq, Repr

/-- The window map: the byte address of each window's first word (R25). -/
structure WindowMap where
  sale : Nat
  control : Nat
  cash : Nat
  roll : Nat
  book : Nat
deriving DecidableEq, Repr

/-- The fifteen response groups (R34). -/
inductive Group where
  | saleResp
  | tenderResp
  | price
  | permitResp
  | timeResp
  | serviceResp
  | collectResp
  | bookResp
  | faultResp
  | eosResp
  | enableResp
  | reportResp
  | jexportResp
  | pexportResp
  | amendResp
deriving DecidableEq, Repr

/-- The five attention sources, by rank (R166). -/
inductive Source where
  | sale
  | fault
  | cash
  | book
  | roll
deriving DecidableEq, Repr

/-- The image cells of CONTROL that the group writer rewrites (R36). -/
inductive Image where
  | notice (source : Source)
  | peek
  | take
  | stopSet
  | lines
  | routes
deriving DecidableEq, Repr

/-- What waits in the group writer's ready order (R36). -/
inductive ReadyItem where
  | group (g : Group)
  | image (i : Image)
deriving DecidableEq, Repr

/-- The size of a host access to a word (section 2.2). -/
inductive Size where
  | word
  | high
  | low
deriving DecidableEq, Repr

/-- A latched host read (R37). -/
structure Latched where
  word : BitVec 23
  size : Size
  group : Group
deriving DecidableEq, Repr

/-- The delayed-read slot (R37); the discard timer runs only when COMPLETE (R39). -/
inductive DelayedSlot where
  | empty
  | waiting (read : Latched)
  | complete (read : Latched) (value : Word) (timer : Nat)
deriving DecidableEq, Repr

/-- The engines that share the memory port with the host, in the arbiter's circle (R42). -/
inductive Engine where
  | groupWriter
  | cashWriter
  | permitUnit
  | tariffUnit
  | startUpReader
deriving DecidableEq, Repr

/-- The requesters of the memory port (R42). -/
inductive Requester where
  | host
  | engine (e : Engine)
deriving DecidableEq, Repr

/-- The memory-port arbiter (R42). -/
structure Arbiter where
  /-- Consecutive host grants made while some engine was waiting. -/
  count : Nat
  /-- The rotation pointer. -/
  pointer : Engine
  /-- The requester last granted. -/
  granted : Option Requester
deriving DecidableEq, Repr

/-- Host-side terminations (00_scope 3.5). -/
inductive Term where
  | ready
  | retry
  | error
deriving DecidableEq, Repr

/-- Read data given to the host; a byte read gives the addressed byte only (R27, log 34). -/
inductive HostData where
  | none
  | word (w : Word)
  | high (b : Byte)
  | low (b : Byte)
deriving DecidableEq, Repr

/-- The last answer at the host port. -/
structure Reply where
  term : Term
  data : HostData
deriving DecidableEq, Repr

/-- The path unit. -/
structure PathUnit where
  mode : PathMode
  /-- The window map, or none when it is empty (R25). -/
  map : Option WindowMap
  /-- The pending set (R35). -/
  owed : List Group
  /-- The group writer's ready order (R36). -/
  ready : List ReadyItem
  slot : DelayedSlot
  arb : Arbiter
  reply : Reply
deriving DecidableEq, Repr

/-! ## Configuration registers -/

/-- The values of the configuration record that are handed out at start-up step 1 (R179). -/
structure CfgRegs where
  discardMs : Nat
  debounceMs : Nat
  flashWaitMs : Nat
  /-- The denomination table (R123). -/
  denoms : Eight Word
  escrowCap : Nat
  capacity : Nat
  nearPercent : Nat
  authTime : Nat
  idleLimit : Nat
  probeLimit : Nat
  zone : Byte
deriving DecidableEq, Repr

/-! ## Sale unit -/

/-- The sale states (R2), codes in R193. -/
inductive SaleState where
  | idle
  | opened
  | committing
  | voiding
  | closed
  | void
deriving DecidableEq, Repr

/-- Void reasons (R193); `none` is 0, a sale not voided. -/
inductive VoidReason where
  | none
  | abandoned
  | idleTimeout
  | doorOpened
  | stopped
  | restart
deriving DecidableEq, Repr

/-- Permit verdicts (R101). -/
inductive Verdict where
  | none
  | valid
  | notFound
  | revoked
  | expired
  | notYet
  | wrongZone
  | notHere
  | allowanceUsed
  | damaged
  | noRoll
  | noSale
  | badNumber
deriving DecidableEq, Repr

/-- The permit in use, found VALID (R2, R102). -/
structure PermitInUse where
  number : DWord
  category : Byte
  discount : Byte
  bucket : BitVec 9
  slot : Nat
deriving DecidableEq, Repr

/-- A completed price result (R63). -/
structure PriceResult where
  expiry : DWord
  charge : Word
  overpay : Word
  flags : Word
  bandInfo : Word
  bookId : Word
  pricedAt : DWord
deriving DecidableEq, Repr

/-- A request or tender handed to the sale unit. -/
inductive SaleWork where
  | cmd (value : Word)
  | coin (index : Word)
  | card (pence : Word)
deriving DecidableEq, Repr

/-- The permit part of a close: the slot to write and the new record image (R106). -/
structure PermitPart where
  bucket : BitVec 9
  slot : Nat
  image : List Word
deriving DecidableEq, Repr

/-- The sale unit: the sale context (R2), the words of its cells that are not context, and its waits. -/
structure SaleUnit where
  state : SaleState
  number : DWord
  escrow : Eight Word
  late : Eight Word
  lateTotal : Word
  coinPence : Word
  cardPence : Word
  permit : Option PermitInUse
  verdict : Verdict
  price : PriceResult
  idle : Nat
  voidReason : VoidReason
  /-- The words of the sale record's other cells, as they are to be written next. -/
  saleCmd : Word
  coinIn : Word
  cardIn : Word
  refundDue : Word
  commitFlags : Word
  inhibit : Word
  /-- An OPEN that waits for a changeover to end (R5). -/
  waitOpen : Bool
  /-- A COMMIT that waits for the sale to be quiet (R7). -/
  waitCommit : Bool
  /-- Requests and tenders handed over between the sale record step and the close's end (R10, R22). -/
  held : List SaleWork
  /-- The close in hand has reached the sale record step (R134). -/
  recordStep : Bool
  /-- What a passed commit permit step handed over (R106). -/
  permitPart : Option PermitPart
deriving DecidableEq, Repr

/-! ## Tariff unit -/

/-- The two slots of the BOOK window (section 4.1). -/
inductive BookSlot where
  | a
  | b
deriving DecidableEq, Repr

/-- The states of a slot (R67). -/
inductive SlotState where
  | erased
  | writing
  | loaded
  | valid
  | active
  | retired
  | rejected
deriving DecidableEq, Repr

/-- The kinds of a band (R190). -/
inductive BandKind where
  | charged
  | free
  | noParking
deriving DecidableEq, Repr

/-- Rounding modes (R58). -/
inductive Rounding where
  | down
  | up
  | nearestTiesUp
  | nearestTiesDown
  | fromBook
deriving DecidableEq, Repr

/-- A band (R190). -/
structure Band where
  start : Nat
  kind : BandKind
  rounding : Rounding
  rate : Nat
  unit : Nat
  resident : Byte
  visitor : Byte
  trade : Byte
deriving DecidableEq, Repr

/-- A zone section (R71). -/
structure ZoneSection where
  defaultRounding : Rounding
  maxStay : Nat
  minCharge : Nat
  weekdays : List Nat
  /-- Day number and day type of each exception, in the book's order. -/
  exceptions : List (Nat × Nat)
  dayTypes : List (List Band)
deriving DecidableEq, Repr

/-- The book cache when it holds a section (R73). -/
structure BookCache where
  id : Word
  effective : DWord
  zone : ZoneSection
deriving DecidableEq, Repr

/-- A flash operation (R74): an erase of the slot at a byte address, or a program of one word. -/
inductive FlashOp where
  | erase (base : Nat)
  | program (addr : Nat) (value : Word)
deriving DecidableEq, Repr

/-- BOOK_CMD requests that stay in hand (R75). -/
inductive BookRequest where
  | installBegin
  | installEnd
  | installAbort
  | cancelPending
deriving DecidableEq, Repr

/-- Who asked for a flash operation, and so what follows its end. -/
inductive FlashUse where
  /-- The erase of INSTALL_BEGIN (R77). -/
  | beginErase
  /-- The WRITING marking of INSTALL_BEGIN (R77). -/
  | beginMark
  /-- A REJECTED marking that ends an ERASING session with this answer, or NO_KEY after a KEY
  withdrawal (R77). -/
  | beginReject (answer : Word)
  /-- A REJECTED marking that nothing waits for (R77). -/
  | rejectOnly
  /-- A word program of the host (R78). -/
  | hostWord
  /-- The LOADED marking of INSTALL_END (R80). -/
  | endLoaded
  /-- The VALID marking of INSTALL_END (R80). -/
  | endValid
  /-- A REJECTED marking of INSTALL_END, with its answer and the reason of a BOOK_REJECTED (R80). -/
  | endReject (answer : Word) (reason : Option Word)
  /-- The REJECTED marking of an abort by a KEY withdrawal (R79) or by a wait limit (R78). -/
  | abortMark (key : Bool)
  /-- The REJECTED marking of INSTALL_ABORT (R81). -/
  | abortRequest
  /-- The RETIRED marking of CANCEL_PENDING (R81). -/
  | cancelMark
  /-- The ACTIVE marking of a changeover (R84). -/
  | changeActive
  /-- The RETIRED marking of the old slot of a changeover (R84). -/
  | changeRetire (old : BookSlot)
  /-- The RETIRED marking of a stale slot after the daily check (R85). -/
  | staleRetire (slot : BookSlot)
  /-- The markings of start-up step 2 (R87). -/
  | startReject
  | startRetire (slot : BookSlot)
  | startRejectPending (reason : Word)
deriving DecidableEq, Repr

/-- A flash operation with what follows it. -/
structure FlashJob where
  op : FlashOp
  use : FlashUse
deriving DecidableEq, Repr

/-- The book programmer (R74): ERASING or PROGRAMMING while it has a job, IDLE otherwise. -/
structure Programmer where
  job : Option FlashJob
  /-- It waits for FBUSY to be deasserted before its command writes. -/
  waitsFbusy : Bool
  /-- The wait-limit timer. -/
  timer : Option Nat
  /-- Jobs asked for while it works (log 23). -/
  jobs : List FlashJob
deriving DecidableEq, Repr

/-- Session states (R69). -/
inductive SessionState where
  | closed
  | erasing
  | opened
  | ending
deriving DecidableEq, Repr

/-- What waits for the session's program to end, in the order taken (R79). -/
inductive SessionWait where
  | keyWithdrawn
  | request (r : BookRequest)
deriving DecidableEq, Repr

/-- The install session (R69). -/
structure Session where
  state : SessionState
  slot : BookSlot
  /-- KEY was withdrawn while the session was ERASING (R77). -/
  keyLost : Bool
  waits : List SessionWait
deriving DecidableEq, Repr

/-- How far a begun changeover has come (R84, log 21). -/
inductive ChangeStage where
  | toActivate
  | activating
  | toRetire
  | retiring
  | toFill
deriving DecidableEq, Repr

/-- A request for a price run (R49): the category of the permit in use when its verdict is VALID. -/
structure PriceRequest where
  t0 : Nat
  tendered : Nat
  permit : Option Byte
deriving DecidableEq, Repr

/-- A price run (R48). -/
structure PriceRun where
  t0 : Nat
  tendered : Nat
  permit : Option Byte
  /-- The walk position. -/
  p : Nat
  /-- The charged minutes. -/
  c : Nat
  /-- The money remaining. -/
  m : Nat
  flags : Word
  dayType : Nat
  bandIndex : Nat
  /-- The result, once the run has formed it. -/
  result : Option PriceResult
deriving DecidableEq, Repr

/-- What overtakes the run in flight at its next step (R49). -/
inductive Overtake where
  | no
  | stop
  | restart (request : PriceRequest)
deriving DecidableEq, Repr

/-- The pricing engine: IDLE with no run, RUNNING with one (R48). -/
structure PriceEngine where
  run : Option PriceRun
  overtaken : Overtake
deriving DecidableEq, Repr

/-- The tariff unit (R69). -/
structure TariffUnit where
  inForce : Option BookSlot
  stale : Option BookSlot
  pendingSlot : Option BookSlot
  due : Bool
  /-- Step 1 of a due changeover has failed: it waits for the next minute mark (R84). -/
  retry : Bool
  /-- The changeover mark: set while this is some. -/
  change : Option ChangeStage
  session : Session
  prog : Programmer
  cache : Option BookCache
  /-- The request in hand from BOOK_CMD. -/
  hand : Option BookRequest
  bookCmd : Word
  /-- A daily check waits to be made (R85). -/
  checkDue : Bool
  engine : PriceEngine
deriving DecidableEq, Repr

/-! ## Permit unit -/

/-- The search engine's states when it has a CHECK in hand (R94). -/
inductive SearchPhase where
  | waiting
  | seek
  | scan
deriving DecidableEq, Repr

/-- The CHECK in hand and its search (R94). -/
structure Search where
  number : DWord
  /-- The check minute. -/
  minute : DWord
  today : Word
  phase : SearchPhase
  bucket : BitVec 9
  /-- Buckets of the chain examined. -/
  examined : Nat
  slot : Nat
  /-- The overflow flag noted from the bucket header. -/
  overflow : Bool
deriving DecidableEq, Repr

/-- Kinds of work that take the roll lock (R92). -/
inductive LockKind where
  | commitStep
  | search
  | amendment
  | scrub
deriving DecidableEq, Repr

/-- The roll lock (R92). -/
structure RollLock where
  holder : Option LockKind
  waiters : List LockKind
deriving DecidableEq, Repr

/-- The amendment engine's states (R108). -/
inductive AmendState where
  | idle
  | waiting
  | applying
deriving DecidableEq, Repr

/-- The permit unit (R92, R94, R108, R121). -/
structure PermitUnit where
  /-- The kept number (R94). -/
  kept : DWord
  search : Option Search
  /-- An abandoned search holds the lock until its next step (R103, log 28). -/
  dying : Bool
  permitReq : Word
  lock : RollLock
  /-- Today, taken when the commit permit step was last handed the lock (R105). -/
  commitDay : Word
  head : BitVec 5
  tail : BitVec 5
  /-- The tail as last written to AMEND_TAIL: entries before it are the part's (R32, R109). -/
  handed : BitVec 5
  amend : AmendState
  recordCount : Word
  lastSeq : DWord
  headerGood : Bool
  amendStatus : Word
  scrubCursor : BitVec 9
deriving DecidableEq, Repr

/-! ## Cash unit -/

/-- The box tally (R125). -/
structure Tally where
  counts : Eight Word
  coins : Word
  value : DWord
deriving DecidableEq, Repr

/-- A period record (R127, R189). -/
structure PeriodRecord where
  number : DWord
  opened : DWord
  closed : DWord
  closeKind : Word
  committed : Word
  voided : Word
  permitSales : Word
  cardPence : DWord
  chargePence : DWord
  overpayPence : DWord
  vaulted : Eight Word
  stray : Eight Word
  refunded : Eight DWord
  firstSeq : DWord
  lastSeq : DWord
  intrusions : Word
  lateCoins : Word
  /-- The spare words 54 to 62 as the record holds them: 0 in every record the part forms, kept as read at
  start-up, and covered by the check word (R185). -/
  spares : Vector Word 9
deriving DecidableEq, Repr

/-- Kinds of close (R189). -/
inductive CloseKind where
  | commit
  | void
  | period
deriving DecidableEq, Repr

/-- The close in hand: its kind, its images and the step done (R122, R132). -/
structure Close where
  kind : CloseKind
  /-- The sale number, or the period number of a period close. -/
  number : DWord
  journal : List Word
  period : List Word
  box : List Word
  /-- The permit part, or none when the close writes no permit record (bucket FFFFh). -/
  permit : Option PermitPart
  stepDone : Nat
  /-- SALE_RESP and TENDER_RESP have been written for step 7 (R134). -/
  saleWritten : Bool
  tenderWritten : Bool
deriving DecidableEq, Repr

/-- What waits for the close in hand to end, in the order it arrived (R128, R146). -/
inductive CashWork where
  | stray (denom : Fin 8)
  | forcedEntry
  | periodClose
  | saleClose
  /-- The place of a sale's close that is still to be handed over: a period close behind it fell due with that sale
  COMMITTING or VOIDING, and waits for its step 8 (R146). -/
  | saleComes
deriving DecidableEq, Repr

/-- Compartment states (R137). -/
inductive Compartment where
  | sealed
  | authorised
  | opened
  | boxOut
  | refilled
  | sealedEmpty
  | breached
deriving DecidableEq, Repr

/-- Levels of the three lines, as LINES shows them (R149). -/
structure Levels where
  door : Bool
  box : Bool
  key : Bool
deriving DecidableEq, Repr

/-- The LINES latch (R149). -/
inductive LinesLatch where
  | live
  | frozen (levels : Levels)
deriving DecidableEq, Repr

/-- The cash unit (R122, R137, R148, R149). -/
structure CashUnit where
  tally : Tally
  nearLatch : Bool
  period : PeriodRecord
  nextSeq : DWord
  exportMark : DWord
  reserved : Bool
  exportLow : Word
  pnext : Word
  pexport : Word
  compartment : Compartment
  intrusion : Bool
  authCount : Nat
  closeOwed : Bool
  close : Option Close
  waiting : List CashWork
  latch : LinesLatch
  collectCmd : Word
deriving DecidableEq, Repr

/-! ## Fault unit -/

/-- The sixteen fault classes (R151). -/
inductive FaultClass where
  | tariffBad
  | bookRejected
  | flashTimeout
  | rollSeek
  | recordCrc
  | rollFull
  | journalFull
  | periodRingFull
  | boxNear
  | boxFull
  | intrusion
  | boxAbsent
  | staleRead
  | windowViolation
  | recovery
  | machine
deriving DecidableEq, Repr

/-- Routes (R152). -/
inductive Route where
  | log
  | attend
  | stop
deriving DecidableEq, Repr

/-- An effective route with its delegate mark (R152). -/
structure RouteEntry where
  route : Route
  delegate : Bool
deriving DecidableEq, Repr

/-- The ten conditions of the stop set (R159). -/
inductive Condition where
  | timeUnset
  | tariffBad
  | journalFull
  | boxFull
  | boxAbsent
  | intrusion
  | doorOpen
  | machineStop
  | salesOff
  | rollDown
deriving DecidableEq, Repr

/-- A fault record (R153, R192). -/
structure FaultRecord where
  cls : FaultClass
  sub : Byte
  seq : Word
  minute : DWord
  saleNumber : DWord
  detail : Word
  saleState : SaleState
  followers : Byte
deriving DecidableEq, Repr

/-- One attention source (R166). -/
structure SourceRegs where
  pend : Bool
  serving : Bool
  enabled : Bool
  notice : Word
deriving DecidableEq, Repr

/-- The five attention sources, by rank (R166). -/
structure Sources where
  sale : SourceRegs
  fault : SourceRegs
  cash : SourceRegs
  book : SourceRegs
  roll : SourceRegs
deriving DecidableEq, Repr

/-- The fault unit (R150, R166). -/
structure FaultUnit where
  /-- The effective routes of classes 1 to 16, or no routes. -/
  routes : List RouteEntry
  /-- The fault list, oldest first. -/
  list : List FaultRecord
  seq : Word
  view : List Word
  stop : List Condition
  sources : Sources
  vectorBase : Word
  /-- The vector returned by the latest take (R36). -/
  lastTake : Word
  serviceCmd : Word
  faultCmd : Word
  reportCmd : Word
  attnEos : Word
  attnEnable : Word
deriving DecidableEq, Repr

/-! ## Timebase, line monitor, start-up, flash pins -/

/-- The timebase (R174). -/
structure Timebase where
  minute : DWord
  timeSet : Bool
  /-- The latched TIME_LO. -/
  low : Word
  timeHi : Word
deriving DecidableEq, Repr

/-- One machine line (R136). -/
structure LineRegs where
  raw : Bool
  /-- The debounced level, none until settled. -/
  level : Option Bool
  timer : Option Nat
deriving DecidableEq, Repr

/-- The line monitor (R136, R182). -/
structure LineMonitor where
  door : LineRegs
  box : LineRegs
  key : LineRegs
  /-- The 1,000 ms settle limit, while a line is unsettled. -/
  settleLimit : Option Nat
deriving DecidableEq, Repr

/-- Where start-up step 2 waits for a marking (R87). -/
inductive BookStage where
  /-- Rejecting WRITING or LOADED slots; the slots still to be looked at. -/
  | rejecting (rest : List BookSlot)
  /-- Retiring the older of two ACTIVE slots. -/
  | retiring
  /-- Rejecting a VALID slot that failed; the slots still to be looked at. -/
  | pendings (rest : List BookSlot)
deriving DecidableEq, Repr

/-- How far the start-up procedure has come (R178 to R183, log 24). -/
inductive StartPhase where
  /-- The reset is held, or the supply is not steady. -/
  | held
  /-- Step 1 waits for FBUSY. -/
  | waitFbusy
  /-- Step 2 waits for a marking. -/
  | books (stage : BookStage)
  /-- Step 5 waits for the close of a sale voided with reason RESTART. -/
  | waitClose
  /-- Step 7 waits for the lines to settle. -/
  | waitLines
  /-- Step 8 waits for a period close. -/
  | waitPeriod
  /-- Step 10 waits for the pending set to be empty. -/
  | waitOwed
  /-- The procedure has ended. -/
  | done
deriving DecidableEq, Repr

/-- The start-up procedure. -/
structure StartUnit where
  phase : StartPhase
  /-- The 1,000 ms limit of step 1's wait for FBUSY. -/
  fbusyLimit : Option Nat
deriving DecidableEq, Repr

/-- The flash device as the part meets it: its FBUSY line and the operation it has not ended. -/
structure FlashPins where
  fbusy : Bool
  op : Option FlashOp
deriving DecidableEq, Repr

/-! ## The whole -/

/-- Bytes of flash and SRAM by byte address, in the canonical form of `Memory.wf`. -/
abbrev Memory := List Host.Cell

/-- The state of the part, its memory and its queue of commands. -/
structure State where
  path : PathUnit
  cfg : CfgRegs
  sale : SaleUnit
  tariff : TariffUnit
  permit : PermitUnit
  cash : CashUnit
  fault : FaultUnit
  time : Timebase
  lines : LineMonitor
  start : StartUnit
  flash : FlashPins
  mem : Memory
  /-- The word writes the last step drove on the memory port, newest first. -/
  driven : List (Nat × Word)
  /-- The commands that wait, first in, first out. -/
  pending : List Instr
deriving DecidableEq, Repr

/-- Reasons to stop with a fault: none. The part itself never stops; its own faults are records in
its state (R150), and every access lies in the 24-bit space (00_scope 3.1). -/
inductive Fault where
deriving DecidableEq, Repr

/-- Reasons to refuse a command. -/
inductive Refusal where
  /-- Raised by `exec` alone, for a command that has no meaning yet: no arm raises it. Safe. -/
  | notModelled (mnemonic : String)
deriving DecidableEq, Repr

/-- What a meaning answers. -/
abbrev Out := Host.Outcome State Fault Refusal

/-! ## Reset values -/

/-- The price result with every field 0 (R2, R13). -/
def PriceResult.zero : PriceResult :=
  { expiry := 0, charge := 0, overpay := 0, flags := 0, bandInfo := 0, bookId := 0, pricedAt := 0 }

/-- The path unit after a reset (R44); `granted` and the reply's data are the model's (log 9). -/
def PathUnit.reset : PathUnit :=
  { mode := .starting, map := none, owed := [], ready := [], slot := .empty
    arb := { count := 0, pointer := .groupWriter, granted := none }
    reply := { term := .retry, data := .none } }

/-- The configuration registers before a configuration load (R122 for the cash unit's; log 9). -/
def CfgRegs.reset : CfgRegs :=
  { discardMs := 0, debounceMs := 0, flashWaitMs := 0, denoms := Eight.all 0, escrowCap := 0
    capacity := 0, nearPercent := 0, authTime := 0, idleLimit := 0, probeLimit := 0, zone := 0 }

/-- The sale unit after a reset (R2; log 9 for the cells' words). -/
def SaleUnit.reset : SaleUnit :=
  { state := .idle, number := 0, escrow := Eight.all 0, late := Eight.all 0, lateTotal := 0
    coinPence := 0, cardPence := 0, permit := none, verdict := .none, price := PriceResult.zero
    idle := 0, voidReason := .none, saleCmd := 0, coinIn := 0, cardIn := 0, refundDue := 0
    commitFlags := 0, inhibit := 0, waitOpen := false, waitCommit := false, held := []
    recordStep := false, permitPart := none }

/-- A closed session with nothing waiting (R69; slot A is log 9's). -/
def Session.reset : Session := { state := .closed, slot := .a, keyLost := false, waits := [] }

/-- The programmer IDLE with its timer stopped (R69). -/
def Programmer.reset : Programmer :=
  { job := none, waitsFbusy := false, timer := none, jobs := [] }

/-- The tariff unit after a reset (R48, R69). -/
def TariffUnit.reset : TariffUnit :=
  { inForce := none, stale := none, pendingSlot := none, due := false, retry := false, change := none
    session := Session.reset, prog := Programmer.reset, cache := none, hand := none, bookCmd := 0
    checkDue := false, engine := { run := none, overtaken := .no } }

/-- The permit unit after a reset (R92, R94, R108, R121; log 9 for `commitDay`). -/
def PermitUnit.reset : PermitUnit :=
  { kept := 0, search := none, dying := false, permitReq := 0
    lock := { holder := none, waiters := [] }, commitDay := 0, head := 0, tail := 0, handed := 0
    amend := .idle, recordCount := 0, lastSeq := 0, headerGood := false, amendStatus := 0, scrubCursor := 0 }

/-- An empty box tally. -/
def Tally.zero : Tally := { counts := Eight.all 0, coins := 0, value := 0 }

/-- A period record with every field 0. -/
def PeriodRecord.zero : PeriodRecord :=
  { number := 0, opened := 0, closed := 0, closeKind := 0, committed := 0, voided := 0
    permitSales := 0, cardPence := 0, chargePence := 0, overpayPence := 0, vaulted := Eight.all 0
    stray := Eight.all 0, refunded := Eight.all 0, firstSeq := 0, lastSeq := 0, intrusions := 0
    lateCoins := 0, spares := Vector.replicate 9 0 }

/-- The cash unit after a reset (R122, R131, R137, R148, R149). -/
def CashUnit.reset : CashUnit :=
  { tally := Tally.zero, nearLatch := false, period := PeriodRecord.zero, nextSeq := 0
    exportMark := 0, reserved := false, exportLow := 0, pnext := 0, pexport := 0
    compartment := .sealed, intrusion := false, authCount := 0, closeOwed := false, close := none
    waiting := [], latch := .live, collectCmd := 0 }

/-- A source with every flag clear and notice 0 (R166). -/
def SourceRegs.reset : SourceRegs :=
  { pend := false, serving := false, enabled := false, notice := 0 }

/-- The fault unit after a reset (R150, R166). -/
def FaultUnit.reset : FaultUnit :=
  { routes := [], list := [], seq := 0, view := List.replicate 8 0, stop := []
    sources := { sale := SourceRegs.reset, fault := SourceRegs.reset, cash := SourceRegs.reset
                 book := SourceRegs.reset, roll := SourceRegs.reset }
    vectorBase := 0, lastTake := 0, serviceCmd := 0, faultCmd := 0, reportCmd := 0, attnEos := 0
    attnEnable := 0 }

/-- The timebase after POWER_ON (R174). -/
def Timebase.reset : Timebase := { minute := 0, timeSet := false, low := 0, timeHi := 0 }

/-- A line with no debounced level at the raw level given (R136). -/
def LineRegs.reset (raw : Bool) : LineRegs := { raw := raw, level := none, timer := none }

/-- The state right after POWER_ON, with the reset still held (R178), memory with nothing listed, the
pins deasserted (log 9) and the queue empty. -/
def State.reset : State :=
  { path := PathUnit.reset, cfg := CfgRegs.reset, sale := SaleUnit.reset
    tariff := TariffUnit.reset, permit := PermitUnit.reset, cash := CashUnit.reset
    fault := FaultUnit.reset, time := Timebase.reset
    lines := { door := LineRegs.reset false, box := LineRegs.reset false
               key := LineRegs.reset false, settleLimit := none }
    start := { phase := .held, fbusyLimit := none }
    flash := { fbusy := false, op := none }
    mem := [], driven := [], pending := [] }

end Sys2Proof.Machine
end

