-- ==== Sys2Proof/Machine/Ops.lean ====
section
/-! DEFINITION. Operations over memory, sums, the pending set and the group writer's ready order. -/

namespace Sys2Proof.Machine

/-! ## Memory -/

/-- What a byte that nothing has written reads as: FFh in flash, 00h in SRAM (DESIGN CHOICE, log 6). -/
def Memory.unlisted (a : Nat) : Byte := if a < 0x800000 then 0xFF else 0x00

/-- The byte at an address. -/
def Memory.read : Memory → Nat → Byte
  | [], a => Memory.unlisted a
  | (k, b) :: rest, a => if k = a then b else Memory.read rest a

/-- Write one byte, keeping the canonical form. -/
def Memory.write : Memory → Nat → Byte → Memory
  | [], a, b => if b = Memory.unlisted a then [] else [(a, b)]
  | (k, v) :: rest, a, b =>
    if a < k then
      if b = Memory.unlisted a then (k, v) :: rest else (a, b) :: (k, v) :: rest
    else if a = k then
      if b = Memory.unlisted a then rest else (a, b) :: rest
    else (k, v) :: Memory.write rest a b

/-- The canonical form: addresses strictly rising, and no entry equal to what an unlisted address
reads as. -/
abbrev Memory.wf (m : Memory) : Prop :=
  m.Pairwise (fun x y => x.1 < y.1) ∧ ∀ c ∈ m, c.2 ≠ Memory.unlisted c.1

/-- Unlist every byte of a range. In flash this is an erase: every byte then reads FFh (R74). -/
def Memory.unlist (m : Memory) (lo hi : Nat) : Memory :=
  m.filter fun c => decide (c.1 < lo) || decide (hi ≤ c.1)

/-- The word at an even byte address; the low byte lies at the even address (DESIGN CHOICE, log 7). -/
def Memory.readWord (m : Memory) (a : Nat) : Word := mkWord (m.read (a + 1)) (m.read a)

/-- Write a word at an even byte address. -/
def Memory.writeWord (m : Memory) (a : Nat) (w : Word) : Memory :=
  (m.write a (loByte w)).write (a + 1) (hiByte w)

/-- `n` words from an address on. -/
def Memory.readWords (m : Memory) (a : Nat) : Nat → List Word
  | 0 => []
  | n + 1 => m.readWord a :: Memory.readWords m (a + 2) n

/-- The word at a byte address. -/
def State.word (s : State) (a : Nat) : Word := s.mem.readWord a

/-- The 32-bit quantity at a byte address, low word first. -/
def State.dword (s : State) (a : Nat) : DWord := mkDWord (s.word a) (s.word (a + 2))

/-- `n` words from a byte address on. -/
def State.words (s : State) (a n : Nat) : List Word := s.mem.readWords a n

/-- Write a word through the memory port (R43). -/
def State.put (s : State) (a : Nat) (w : Word) : State :=
  { s with mem := s.mem.writeWord a w, driven := (a, w) :: s.driven }

/-- Write words one by one in the order given. -/
def State.putAll (s : State) : List (Nat × Word) → State
  | [] => s
  | (a, w) :: rest => (s.put a w).putAll rest

/-- Write consecutive words in ascending order. -/
def State.putRun (s : State) (a : Nat) : List Word → State
  | [] => s
  | w :: rest => (s.put a w).putRun (a + 2) rest

/-- Write a 32-bit quantity, low word first. -/
def State.putDWord (s : State) (a : Nat) (d : DWord) : State :=
  (s.put a (loWord d)).put (a + 2) (hiWord d)

/-- A word with the bytes the byte enables select taken from the data and the others kept (R26, R28). -/
def mergeBytes (old data : Word) (hi lo : Bool) : Word :=
  mkWord (if hi then hiByte data else hiByte old) (if lo then loByte data else loByte old)

/-- A host write with its byte enables. -/
def State.putBytes (s : State) (a : Nat) (hi lo : Bool) (data : Word) : State :=
  s.put a (mergeBytes (s.word a) data hi lo)

/-- The start of a step: nothing driven on the memory port yet. -/
def State.begin (s : State) : State := { s with driven := [] }

/-! ## Sums -/

/-- A 16-bit field that takes an exact sum (log 10). -/
def sum16 (n : Nat) : Word := if n < 0x10000 then BitVec.ofNat 16 n else Config.outOfRange16 n

/-- A 32-bit field that takes an exact sum (log 10). -/
def sum32 (n : Nat) : DWord :=
  if n < 0x100000000 then BitVec.ofNat 32 n else Config.outOfRange32 n

/-- A 16-bit amount or count that stays at 65535 (R9, R14, R127). -/
def sat16 (n : Nat) : Word := BitVec.ofNat 16 (min n 0xFFFF)

/-! ## The pending set and the ready order -/

/-- The sale is COMMITTING or VOIDING and its close has not reached the sale record step. -/
def State.closing (s : State) : Bool :=
  (s.sale.state == .committing || s.sale.state == .voiding) && !s.sale.recordStep

/-- A held request to SALE_CMD. -/
def SaleWork.isCmd : SaleWork → Bool
  | .cmd _ => true
  | .coin _ | .card _ => false

/-- Some piece of work owed into the group is not done yet (R36). -/
def State.busy (s : State) : Group → Bool
  | .saleResp =>
    s.sale.waitOpen || s.sale.waitCommit || s.closing || s.sale.held.any SaleWork.isCmd
  | .tenderResp => s.closing || s.sale.held.any fun w => !w.isCmd
  | .price => s.tariff.engine.run.isSome && s.tariff.engine.overtaken != .stop
  | .permitResp => s.permit.search.isSome
  | .bookResp => s.tariff.hand.isSome
  | .timeResp | .serviceResp | .collectResp | .faultResp | .eosResp | .enableResp | .reportResp
  | .jexportResp | .pexportResp | .amendResp => false

/-- The slot after its latched word's group enters the pending set again (R40). -/
def DelayedSlot.reowe (slot : DelayedSlot) (g : Group) : DelayedSlot :=
  match slot with
  | .complete read value timer => if read.group = g then .waiting read else .complete read value timer
  | .waiting read => .waiting read
  | .empty => .empty

/-- A group enters the pending set, once (R35), and a COMPLETE slot that holds one of its words goes
back to WAITING (R40). -/
def State.mark (s : State) (g : Group) : State :=
  { s with
    path.owed := if g ∈ s.path.owed then s.path.owed else s.path.owed ++ [g]
    path.slot := s.path.slot.reowe g }

/-- A unit owes a group for work that is not done yet: the group is not ready meanwhile (R36). -/
def State.owe (s : State) (g : Group) : State :=
  { s.mark g with path.ready := s.path.ready.filter (· != .group g) }

/-- A unit reports a piece of work done: the group joins the ready order unless another piece is still
owed or it is there already (R36). -/
def State.report (s : State) (g : Group) : State :=
  if g ∈ s.path.owed ∧ s.busy g = false ∧ ReadyItem.group g ∉ s.path.ready then
    { s with path.ready := s.path.ready ++ [.group g] }
  else s

/-- Owe a group for work that is done at once; a group already ready keeps its place. -/
def State.answer (s : State) (g : Group) : State := (s.mark g).report g

/-- Ask the group writer to rewrite an image; one already waiting keeps its place (R36). -/
def State.rewrite (s : State) (i : Image) : State :=
  if ReadyItem.image i ∈ s.path.ready then s
  else { s with path.ready := s.path.ready ++ [.image i] }

/-- The last answer at the host port. -/
def State.replyWith (s : State) (t : Term) (d : HostData) : State :=
  { s with path.reply := { term := t, data := d } }

/-- The day number of a minute (00_scope 3.3). -/
def dayOf (minute : Nat) : Nat := minute / 1440

/-- "Today": the low 16 bits of a minute's day number (R96, R105). -/
def todayOf (minute : DWord) : Word := BitVec.ofNat 16 (dayOf minute.toNat)

/-- The machine minute, or FFFFFFFFh while the time-set flag is clear (R132, R146, R153). -/
def State.minuteOrNone (s : State) : DWord := if s.time.timeSet then s.time.minute else 0xFFFFFFFF

end Sys2Proof.Machine
end

