-- ==== Sys2Proof/Machine/Operands.lean ====
section
/-! DEFINITION. Where words lie and what they are: windows, cells, their kinds and groups
(R25, R32, R34, R187 to R191), and how a host access names them. -/

namespace Sys2Proof.Machine

/-! ## Windows -/

/-- The size of a window in words (R25). -/
def Window.words : Window → Nat
  | .sale => 32
  | .control => 64
  | .cash => 13536
  | .roll => 70432
  | .book => 8192

/-- The base of a window in a window map. -/
def WindowMap.base (m : WindowMap) : Window → Nat
  | .sale => m.sale
  | .control => m.control
  | .cash => m.cash
  | .roll => m.roll
  | .book => m.book

/-- The byte address of the configuration record (R186). -/
def configAddr : Nat := 0x7FF000

/-- The first word of a window's base in the configuration record (R186). -/
def Window.configWord : Window → Nat
  | .sale => 1
  | .control => 3
  | .cash => 5
  | .roll => 7
  | .book => 9

/-- The base of a window: by the window map, and while the map is empty the place the configuration
record gives it, where it "will" or "would" lie (R44, R46; log 4). -/
def State.base (s : State) (w : Window) : Nat :=
  match s.path.map with
  | some m => m.base w
  | none => (s.dword (configAddr + 2 * w.configWord)).toNat

/-- The byte address of word `k` of a window. -/
def State.at (s : State) (w : Window) (k : Nat) : Nat := s.base w + 2 * k

/-- Word `k` of a window, as memory holds it. -/
def State.cellWord (s : State) (w : Window) (k : Nat) : Word := s.word (s.at w k)

/-- The 32-bit quantity at word `k` of a window. -/
def State.cellDWord (s : State) (w : Window) (k : Nat) : DWord := s.dword (s.at w k)

/-- Write word `k` of a window. -/
def State.putCell (s : State) (w : Window) (k : Nat) (v : Word) : State := s.put (s.at w k) v

/-- The windows in the order of R25. -/
def Window.list : List Window := [.sale, .control, .cash, .roll, .book]

/-- The place of a word address in a window, if the window holds it. -/
def WindowMap.offset (m : WindowMap) (w : Window) (word : BitVec 23) : Option Nat :=
  let a := 2 * word.toNat
  if m.base w ≤ a ∧ a < m.base w + 2 * w.words then some ((a - m.base w) / 2) else none

/-- The window and offset of a word address (section 2.2). -/
def WindowMap.place (m : WindowMap) (word : BitVec 23) : Option (Window × Nat) :=
  Window.list.findSome? fun w => (m.offset w word).map fun k => (w, k)

/-- The byte range of a window lies wholly within `lo` to `hi` (R25). -/
def WindowMap.within (m : WindowMap) (w : Window) (lo hi : Nat) : Bool :=
  decide (lo ≤ m.base w) && decide (m.base w + 2 * w.words ≤ hi + 1)

/-- Two windows share no byte (R25). -/
def WindowMap.disjoint (m : WindowMap) (v w : Window) : Bool :=
  decide (m.base v + 2 * v.words ≤ m.base w) || decide (m.base w + 2 * w.words ≤ m.base v)

/-- The placement checks of R25. -/
def WindowMap.placed (m : WindowMap) : Bool :=
  Window.list.all (fun w => m.base w % 2 == 0)
    && [Window.sale, .control, .cash, .roll].all (fun w => m.within w 0x800000 0xFFFFFF)
    && m.within .book 0 0x7FEFFF
    && Window.list.all (fun v => Window.list.all fun w => v == w || m.disjoint v w)

/-! ## Cells -/

/-- The input and command cells, and ATTN_TAKE, by name. -/
inductive Cell where
  | saleCmd
  | coinIn
  | cardIn
  | permitNoLow
  | permitNoHigh
  | permitReq
  | timeLo
  | timeHi
  | serviceCmd
  | collectCmd
  | bookCmd
  | faultCmd
  | reportCmd
  | attnEos
  | attnEnable
  | attnTake
  | jexportLow
  | jexportHigh
  | pexport
  | amendTail
deriving DecidableEq, Repr

/-- Where each named cell lies (R187, R188, R189, R191). -/
def Cell.place : Cell → Window × Nat
  | .saleCmd => (.sale, 0)
  | .coinIn => (.sale, 4)
  | .cardIn => (.sale, 5)
  | .permitNoLow => (.sale, 12)
  | .permitNoHigh => (.sale, 13)
  | .permitReq => (.sale, 14)
  | .timeLo => (.control, 0)
  | .timeHi => (.control, 1)
  | .serviceCmd => (.control, 2)
  | .collectCmd => (.control, 3)
  | .bookCmd => (.control, 4)
  | .faultCmd => (.control, 5)
  | .reportCmd => (.control, 14)
  | .attnEos => (.control, 15)
  | .attnEnable => (.control, 16)
  | .attnTake => (.control, 17)
  | .jexportLow => (.cash, 14)
  | .jexportHigh => (.cash, 15)
  | .pexport => (.cash, 18)
  | .amendTail => (.roll, 69649)

/-- Every named cell. -/
def Cell.list : List Cell :=
  [.saleCmd, .coinIn, .cardIn, .permitNoLow, .permitNoHigh, .permitReq, .timeLo, .timeHi,
   .serviceCmd, .collectCmd, .bookCmd, .faultCmd, .reportCmd, .attnEos, .attnEnable, .attnTake,
   .jexportLow, .jexportHigh, .pexport, .amendTail]

/-- The named cell at a place. -/
def cellAt (place : Window × Nat) : Option Cell := Cell.list.find? fun c => c.place == place

/-- The kinds of cell (00_scope 2.4). -/
inductive CellKind where
  | input
  | command
  | owned
deriving DecidableEq, Repr

/-- The kind of a named cell (R28, R29; ATTN_TAKE is owned). -/
def Cell.kind : Cell → CellKind
  | .permitNoLow | .permitNoHigh | .timeLo | .jexportLow => .input
  | .attnTake => .owned
  | .saleCmd | .coinIn | .cardIn | .permitReq | .timeHi | .serviceCmd | .collectCmd | .bookCmd
  | .faultCmd | .reportCmd | .attnEos | .attnEnable | .jexportHigh | .pexport | .amendTail => .command

/-- An entry of the amendment queue has been handed to the part (R32). -/
def PermitUnit.entryHanded (p : PermitUnit) (k : BitVec 5) : Bool :=
  decide ((k - p.head).toNat < (p.handed - p.head).toNat)

/-- The first word of the amendment queue in the ROLL window, and the length of an entry (R191). -/
def queueBase : Nat := 69664

/-- The kind of a word of the ROLL window that has no name of its own (R32). -/
def PermitUnit.rollKind (p : PermitUnit) (k : Nat) : CellKind :=
  if queueBase ≤ k then
    let entry := (k - queueBase) / 24
    let field := (k - queueBase) % 24
    if field = 3 ∨ p.entryHanded (BitVec.ofNat 5 entry) = true then .owned else .input
  else .owned

/-- The kind of the word at a place outside the BOOK window (R28 to R32). -/
def State.kindAt (s : State) (place : Window × Nat) : CellKind :=
  match cellAt place with
  | some c => c.kind
  | none => if place.1 = .roll then s.permit.rollKind place.2 else .owned

/-- The words of each group, as places, in the order of their offsets (R34, R187 to R191). -/
def Group.places : Group → List (Window × Nat)
  | .saleResp => [(.sale, 0), (.sale, 1), (.sale, 2), (.sale, 3), (.sale, 17), (.sale, 22), (.sale, 25)]
  | .tenderResp =>
    [(.sale, 4), (.sale, 5), (.sale, 6), (.sale, 18), (.sale, 24), (.sale, 26), (.sale, 27),
     (.sale, 28), (.sale, 29), (.sale, 30), (.sale, 31), (.cash, 24), (.cash, 25)]
  | .price =>
    [(.sale, 7), (.sale, 8), (.sale, 9), (.sale, 10), (.sale, 11), (.sale, 19), (.sale, 20),
     (.sale, 21), (.sale, 23)]
  | .permitResp => [(.sale, 14), (.sale, 15), (.sale, 16)]
  | .timeResp => [(.control, 1)]
  | .serviceResp => [(.control, 2)]
  | .collectResp => [(.control, 3)]
  | .bookResp => [(.control, 4)]
  | .faultResp =>
    [(.control, 5), (.control, 6), (.control, 7), (.control, 8), (.control, 9), (.control, 10),
     (.control, 11), (.control, 12), (.control, 13)]
  | .eosResp => [(.control, 15)]
  | .enableResp => [(.control, 16)]
  | .reportResp => [(.control, 14)]
  | .jexportResp => [(.cash, 14), (.cash, 15)]
  | .pexportResp => [(.cash, 18)]
  | .amendResp => [(.roll, 69649), (.roll, 69650)]

/-- Every group. -/
def Group.list : List Group :=
  [.saleResp, .tenderResp, .price, .permitResp, .timeResp, .serviceResp, .collectResp, .bookResp,
   .faultResp, .eosResp, .enableResp, .reportResp, .jexportResp, .pexportResp, .amendResp]

/-- The group a word belongs to, if any (R34). -/
def groupAt (place : Window × Nat) : Option Group := Group.list.find? fun g => place ∈ g.places

/-- The group of a command cell. -/
def Cell.group (c : Cell) : Option Group := groupAt c.place

/-! ## Host accesses -/

/-- The size of an access by its byte enables. -/
def sizeOf (hi lo : Bool) : Size := if hi && lo then .word else if hi then .high else .low

/-- The data a read gives back: the word, or the addressed byte of it (R27). -/
def dataOf (w : Word) (hi lo : Bool) : HostData :=
  match hi, lo with
  | true, true => .word w
  | true, false => .high (hiByte w)
  | false, true => .low (loByte w)
  | false, false => .word 0

/-- The word address of a byte address. -/
def wordAddr (a : Nat) : BitVec 23 := BitVec.ofNat 23 (a / 2)

/-- The word address a host uses for a named cell. -/
def State.cellAddr (s : State) (c : Cell) : BitVec 23 := wordAddr (s.at c.place.1 c.place.2)

/-- The low 16 bits of the byte address of a word (R30, R39). -/
def lowAddr (word : BitVec 23) : Word := BitVec.ofNat 16 (2 * word.toNat)

/-! ## Roll places (R191) -/

/-- The byte address of a bucket. -/
def State.bucketAddr (s : State) (b : BitVec 9) : Nat := s.at .roll (16 + 136 * b.toNat)

/-- The byte address of a slot of a bucket. -/
def State.slotAddr (s : State) (b : BitVec 9) (k : Nat) : Nat :=
  s.at .roll (16 + 136 * b.toNat + 8 + 16 * k)

/-- The byte address of an entry of the amendment queue. -/
def State.entryAddr (s : State) (k : BitVec 5) : Nat := s.at .roll (queueBase + 24 * k.toNat)

/-- The first byte address of a book slot (R190). -/
def State.bookAddr (s : State) : BookSlot → Nat
  | .a => s.at .book 0
  | .b => s.at .book 4096

/-- The other slot. -/
def BookSlot.other : BookSlot → BookSlot
  | .a => .b
  | .b => .a

end Sys2Proof.Machine
end

