-- ==== Sys2Proof/Machine/Records.lean ====
section
/-! DEFINITION. Check words, code tables and the word layouts of the records (chapter 12). -/

namespace Sys2Proof.Machine

/-! ## Check words (R184) -/

/-- One bit of the CRC: the feedback is bit 15 of the register XOR the data bit (R184). -/
def crcBit (reg : Word) (bit : Bool) : Word :=
  if reg.getLsbD 15 != bit then (reg <<< 1) ^^^ 0x8005#16 else reg <<< 1

/-- One word, its high byte first and each byte most significant bit first (R184). -/
def crcWord (reg w : Word) : Word :=
  (List.range 16).foldl (fun r i => crcBit r (w.getLsbD (15 - i))) reg

/-- The CRC of words from a register value on. -/
def crcFrom (reg : Word) (ws : List Word) : Word := ws.foldl crcWord reg

/-- The check word of the words of a record before it: the register is preset to FFFFh (R184). -/
def crc (ws : List Word) : Word := crcFrom 0xFFFF ws

/-- A record with its check word put last. -/
def withCheck (ws : List Word) : List Word := ws ++ [crc ws]

/-- The check word of a record, its last word, is good (R184). -/
def checkGood (ws : List Word) : Bool := ws.getLast? == some (crc ws.dropLast)

/-! ## Codes -/

/-- Sale states (R193). -/
def SaleState.code : SaleState → Nat
  | .idle => 0
  | .opened => 1
  | .committing => 2
  | .voiding => 3
  | .closed => 4
  | .void => 5

/-- Void reasons (R193). -/
def VoidReason.code : VoidReason → Nat
  | .none => 0
  | .abandoned => 1
  | .idleTimeout => 2
  | .doorOpened => 3
  | .stopped => 4
  | .restart => 5

/-- The void reason of a word of the sale record (R193); a word outside the codes is read as none (DESIGN CHOICE,
log 58). -/
def VoidReason.ofWord (w : Word) : VoidReason :=
  match w.toNat with
  | 1 => .abandoned
  | 2 => .idleTimeout
  | 3 => .doorOpened
  | 4 => .stopped
  | 5 => .restart
  | _ => .none

/-- Verdicts (R101). -/
def Verdict.code : Verdict → Nat
  | .none => 0
  | .valid => 16
  | .notFound => 17
  | .revoked => 18
  | .expired => 19
  | .notYet => 20
  | .wrongZone => 21
  | .notHere => 22
  | .allowanceUsed => 23
  | .damaged => 24
  | .noRoll => 25
  | .noSale => 26
  | .badNumber => 27

/-- Fault classes (R151). -/
def FaultClass.code : FaultClass → Nat
  | .tariffBad => 1
  | .bookRejected => 2
  | .flashTimeout => 3
  | .rollSeek => 4
  | .recordCrc => 5
  | .rollFull => 6
  | .journalFull => 7
  | .periodRingFull => 8
  | .boxNear => 9
  | .boxFull => 10
  | .intrusion => 11
  | .boxAbsent => 12
  | .staleRead => 13
  | .windowViolation => 14
  | .recovery => 15
  | .machine => 16

/-- Conditions (R159). -/
def Condition.number : Condition → Nat
  | .timeUnset => 1
  | .tariffBad => 2
  | .journalFull => 3
  | .boxFull => 4
  | .boxAbsent => 5
  | .intrusion => 6
  | .doorOpen => 7
  | .machineStop => 8
  | .salesOff => 9
  | .rollDown => 10

/-- Compartment states (R137). -/
def Compartment.code : Compartment → Nat
  | .sealed => 0
  | .authorised => 1
  | .opened => 2
  | .boxOut => 3
  | .refilled => 4
  | .sealedEmpty => 5
  | .breached => 6

/-- Routes (R152). -/
def Route.code : Route → Nat
  | .log => 0
  | .attend => 1
  | .stop => 2

/-- Close kinds (R189). -/
def CloseKind.code : CloseKind → Nat
  | .commit => 1
  | .void => 2
  | .period => 3

/-- Slot state words (R67). -/
def SlotState.word : SlotState → Word
  | .erased => 0xFFFF
  | .writing => 0x7FFF
  | .loaded => 0x3FFF
  | .valid => 0x1FFF
  | .active => 0x0FFF
  | .retired => 0x07FF
  | .rejected => 0x0000

/-- The state a slot is read as: a value not in the table is REJECTED (R67). -/
def SlotState.ofWord (w : Word) : SlotState :=
  if w = 0xFFFF then .erased else if w = 0x7FFF then .writing else if w = 0x3FFF then .loaded
  else if w = 0x1FFF then .valid else if w = 0x0FFF then .active else if w = 0x07FF then .retired
  else .rejected

/-- A code as a word. -/
def codeWord (n : Nat) : Word := BitVec.ofNat 16 n

/-- A code as a byte. -/
def codeByte (n : Nat) : Byte := BitVec.ofNat 8 n

/-! ## Eight-fold fields -/

/-- The two words of a 32-bit quantity, low word first. -/
def dwords (d : DWord) : List Word := [loWord d, hiWord d]

/-- Word `k` of a list of words, 0 beyond its end. -/
def wordOf (ws : List Word) (k : Nat) : Word := ws.getD k 0

/-- The 32-bit quantity at word `k`. -/
def dwordOf (ws : List Word) (k : Nat) : DWord := mkDWord (wordOf ws k) (wordOf ws (k + 1))

/-- Eight words from word `k` on. -/
def eightOf (ws : List Word) (k : Nat) : Eight Word :=
  #v[wordOf ws k, wordOf ws (k + 1), wordOf ws (k + 2), wordOf ws (k + 3), wordOf ws (k + 4),
     wordOf ws (k + 5), wordOf ws (k + 6), wordOf ws (k + 7)]

/-- Eight 32-bit quantities from word `k` on. -/
def eightDWordOf (ws : List Word) (k : Nat) : Eight DWord :=
  #v[dwordOf ws k, dwordOf ws (k + 2), dwordOf ws (k + 4), dwordOf ws (k + 6), dwordOf ws (k + 8),
     dwordOf ws (k + 10), dwordOf ws (k + 12), dwordOf ws (k + 14)]

/-- Pence of counts at the denominations' values, exactly. -/
def penceOf (counts values : Eight Word) : Nat :=
  (List.zipWith (fun c v => c.toNat * v.toNat) counts.toList values.toList).sum

/-- Add counts to counts (log 10). -/
def addCounts (a b : Eight Word) : Eight Word :=
  Vector.zipWith (fun x y => sum16 (x.toNat + y.toNat)) a b

/-- Add counts to 32-bit counts (log 10). -/
def addWide (a : Eight DWord) (b : Eight Word) : Eight DWord :=
  Vector.zipWith (fun x y => sum32 (x.toNat + y.toNat)) a b

/-! ## Box tally (R189, cells 0 to 11) -/

/-- The tally's words before its check word. -/
def Tally.body (t : Tally) : List Word := t.counts.toList ++ [t.coins] ++ dwords t.value

/-- The tally's twelve words (R125). -/
def Tally.words (t : Tally) : List Word := withCheck t.body

/-- The tally of words read. -/
def Tally.ofWords (ws : List Word) : Tally :=
  { counts := eightOf ws 0, coins := wordOf ws 8, value := dwordOf ws 9 }

/-! ## Period record (R189) -/

/-- The words of a period record before its check word. -/
def PeriodRecord.body (p : PeriodRecord) : List Word :=
  dwords p.number ++ dwords p.opened ++ dwords p.closed
    ++ [p.closeKind, p.committed, p.voided, p.permitSales]
    ++ dwords p.cardPence ++ dwords p.chargePence ++ dwords p.overpayPence
    ++ p.vaulted.toList ++ p.stray.toList ++ p.refunded.toList.flatMap dwords
    ++ dwords p.firstSeq ++ dwords p.lastSeq ++ [p.intrusions, p.lateCoins]
    ++ p.spares.toList

/-- The 64 words of a period record. -/
def PeriodRecord.words (p : PeriodRecord) : List Word := withCheck p.body

/-- The period record of words read. -/
def PeriodRecord.ofWords (ws : List Word) : PeriodRecord :=
  { number := dwordOf ws 0, opened := dwordOf ws 2, closed := dwordOf ws 4, closeKind := wordOf ws 6
    committed := wordOf ws 7, voided := wordOf ws 8, permitSales := wordOf ws 9
    cardPence := dwordOf ws 10, chargePence := dwordOf ws 12, overpayPence := dwordOf ws 14
    vaulted := eightOf ws 16, stray := eightOf ws 24, refunded := eightDWordOf ws 32
    firstSeq := dwordOf ws 48, lastSeq := dwordOf ws 50, intrusions := wordOf ws 52
    lateCoins := wordOf ws 53
    spares := #v[wordOf ws 54, wordOf ws 55, wordOf ws 56, wordOf ws 57, wordOf ws 58, wordOf ws 59,
                 wordOf ws 60, wordOf ws 61, wordOf ws 62] }

/-- The record with its spare words 0, as every record that the part writes whole has them (R185). -/
def PeriodRecord.spared (p : PeriodRecord) : PeriodRecord := { p with spares := Vector.replicate 9 0 }

/-- A new period: number and opened minute as given, every count 0 (R147). -/
def PeriodRecord.fresh (number opened : DWord) : PeriodRecord :=
  { PeriodRecord.zero with number := number, opened := opened }

/-! ## Places in the CASH window (R189) -/

/-- The first word of the closing intent. -/
def intentBase : Nat := 32

/-- The first word of the period ring. -/
def ringBase : Nat := 160

/-- The first word of the open period record. -/
def periodBase : Nat := 1184

/-- The first word of the journal. -/
def journalBase : Nat := 1248

/-- The byte address of the journal entry of a sequence. -/
def State.journalAddr (s : State) (seq : DWord) : Nat :=
  s.at .cash (journalBase + 24 * (seq.toNat % 512))

/-- The byte address of the ring slot of a period, its number less 1 modulo 16 (R148); of number 0, which the part
never writes, slot 15 (DESIGN CHOICE, log 32). -/
def State.ringAddr (s : State) (number : DWord) : Nat :=
  s.at .cash (ringBase + 64 * ((number.toNat + 15) % 16))

/-! ## Closing intent (R132, R146, R189) -/

/-- Intent words 1 to 127 with step done 0; with no permit part the slot word is 0 (DESIGN CHOICE, log 41). -/
def Close.intentWords (c : Close) : List Word :=
  [0] ++ dwords c.number ++ [codeWord c.kind.code]
    ++ (match c.permit with
        | some p => [BitVec.ofNat 16 p.bucket.toNat, BitVec.ofNat 16 p.slot]
        | none => [0xFFFF, 0])
    ++ [0] ++ c.journal ++ c.period ++ c.box ++ List.replicate 4 0
    ++ (match c.permit with
        | some p => p.image
        | none => List.replicate 16 0)

/-- Write the intent: words 1 to 127 and then the state word ARMED, as one piece of work (R132). -/
def State.armIntent (s : State) (c : Close) : State :=
  (s.putRun (s.at .cash (intentBase + 1)) c.intentWords).putCell .cash intentBase 1

/-! ## Fault record (R192) -/

/-- The eight words of a fault record. -/
def FaultRecord.words (r : FaultRecord) : List Word :=
  [mkWord (codeByte r.cls.code) r.sub, r.seq] ++ dwords r.minute ++ dwords r.saleNumber
    ++ [r.detail, mkWord (codeByte r.saleState.code) r.followers]

/-! ## Permit records and buckets (R88 to R91, R191) -/

/-- The status byte of a permit record's words. -/
def recStatus (ws : List Word) : Nat := (hiByte (wordOf ws 2)).toNat

/-- The category byte. -/
def recCategory (ws : List Word) : Byte := loByte (wordOf ws 2)

/-- The permit number. -/
def recNumber (ws : List Word) : DWord := dwordOf ws 0

/-- The zone count. -/
def recZoneCount (ws : List Word) : Nat := (hiByte (wordOf ws 3)).toNat

/-- The four zone bytes. -/
def recZones (ws : List Word) : List Byte :=
  [loByte (wordOf ws 3), hiByte (wordOf ws 4), loByte (wordOf ws 4), hiByte (wordOf ws 5)]

/-- The check word of a permit record is good. -/
def recCheckGood (ws : List Word) : Bool := checkGood ws

/-- A slot is readable (R90). -/
def readable (ws : List Word) : Bool :=
  checkGood ws && (recStatus ws == 1 || recStatus ws == 2)
    && decide (1 ≤ (recCategory ws).toNat) && decide ((recCategory ws).toNat ≤ 3)
    && decide (1 ≤ recZoneCount ws) && decide (recZoneCount ws ≤ 4)

/-- A status that a walk or search passes over: EMPTY or VACATED. -/
def freeStatus (status : Nat) : Bool := status == 0 || status == 3

/-- A slot is damaged (R90). -/
def damaged (ws : List Word) : Bool := !freeStatus (recStatus ws) && !readable ws

/-- The machine's zone is among the record's zones (R101). -/
def zoneListed (ws : List Word) (zone : Byte) : Bool :=
  ((recZones ws).take (recZoneCount ws)).contains zone

/-- The home bucket of a number: its low nine bits (R91). -/
def homeBucket (number : DWord) : BitVec 9 := number.extractLsb' 0 9

/-- A bucket number as a word. -/
def bucketWord (b : BitVec 9) : Word := b.setWidth 16

/-- bucket × 8 + slot, the detail of a RECORD_CRC (R99). -/
def slotDetail (b : BitVec 9) (slot : Nat) : Word := codeWord (b.toNat * 8 + slot)

/-- A bucket header read for bucket `b` verifies (R98). -/
def headerVerifies (b : BitVec 9) (ws : List Word) : Bool :=
  wordOf ws 0 == bucketWord b && wordOf ws 1 == ~~~(bucketWord b) && checkGood ws

/-- The words of a permit record or a slot as memory holds them. -/
def State.slotWords (s : State) (b : BitVec 9) (k : Nat) : List Word := s.words (s.slotAddr b k) 16

/-- The words of a bucket header as memory holds them. -/
def State.headerWords (s : State) (b : BitVec 9) : List Word := s.words (s.bucketAddr b) 8

/-- Write a permit record with its words other than the status word in ascending order, check word
included, and its status word last (R113, R133). -/
def State.putRecord (s : State) (a : Nat) (ws : List Word) : State :=
  ((s.putRun a (ws.take 2)).putRun (a + 6) (ws.drop 3)).put (a + 4) (wordOf ws 2)

end Sys2Proof.Machine
end

