-- ==== Sys2Proof/Machine/Flags.lean ====
section
/-! DEFINITION. Every flag word of the part: price flags, COMMIT_FLAGS, the STOP_SET, LINES and ROUTES
images, and what the conditions of the stop set block (R16, R63, R159, R160, R187, R188). -/

namespace Sys2Proof.Machine

/-! ## Price flags (R63) -/

/-- The price flags. -/
inductive PriceFlag where
  | rounded
  | clippedStay
  | clippedNoParking
  | freeSpanned
  | belowMinimum
  | permitApplied
  | overpaid
deriving DecidableEq, Repr

/-- The bit of a price flag in PRICE_FLAGS (R63). -/
def PriceFlag.bit : PriceFlag → Nat
  | .rounded => 0
  | .clippedStay => 1
  | .clippedNoParking => 2
  | .freeSpanned => 3
  | .belowMinimum => 4
  | .permitApplied => 5
  | .overpaid => 6

/-- The word with one price flag set. -/
def PriceFlag.word (f : PriceFlag) : Word := BitVec.ofNat 16 (2 ^ f.bit)

/-- Raise a price flag when a condition holds. -/
def raiseFlag (flags : Word) (f : PriceFlag) (b : Bool) : Word := if b then flags ||| f.word else flags

/-- A PRICE_FLAGS word carries a flag. -/
def hasFlag (flags : Word) (f : PriceFlag) : Bool := flags.getLsbD f.bit

/-! ## COMMIT_FLAGS (R1, R187) -/

/-- COMMIT_FLAGS: PERMIT_USED bit 0, REFUND_OWED bit 1, OVERPAID bit 2. -/
def commitFlagsOf (permitUsed : Bool) (refund overpay : Word) (commit : Bool) : Word :=
  (if permitUsed then 1 else 0) ||| (if refund ≠ 0 then 2 else 0)
    ||| (if commit ∧ overpay ≠ 0 then 4 else 0)

/-! ## The stop set (R159, R160) -/

/-- The conditions in number order. -/
def Condition.list : List Condition :=
  [.timeUnset, .tariffBad, .journalFull, .boxFull, .boxAbsent, .intrusion, .doorOpen, .machineStop,
   .salesOff, .rollDown]

/-- The condition blocks OPEN (R159). -/
def Condition.blocksOpen : Condition → Bool
  | .timeUnset | .tariffBad | .journalFull | .intrusion | .doorOpen | .machineStop | .salesOff => true
  | .boxFull | .boxAbsent | .rollDown => false

/-- The condition blocks COIN (R159). -/
def Condition.blocksCoin : Condition → Bool
  | .boxFull | .boxAbsent => true
  | .timeUnset | .tariffBad | .journalFull | .intrusion | .doorOpen | .machineStop | .salesOff
  | .rollDown => false

/-- The reason with which the condition voids an OPEN sale, if it does (R159). -/
def Condition.voids : Condition → Option VoidReason
  | .doorOpen => some .doorOpened
  | .tariffBad | .intrusion | .machineStop => some .stopped
  | .timeUnset | .journalFull | .boxFull | .boxAbsent | .salesOff | .rollDown => none

/-- The stop set holds a condition. -/
def State.stopped (s : State) (c : Condition) : Bool := decide (c ∈ s.fault.stop)

/-- The stop set holds a condition that blocks COIN. -/
def State.coinBlocked (s : State) : Bool := s.fault.stop.any Condition.blocksCoin

/-- The stop set holds a voiding condition. -/
def State.voidingPresent (s : State) : Bool := s.fault.stop.any fun c => c.voids.isSome

/-- The STOP_SET image: condition number n is bit n - 1 (R160). -/
def stopWord (stop : List Condition) : Word :=
  (Condition.list.filter fun c => decide (c ∈ stop)).foldl
    (fun w c => w ||| BitVec.ofNat 16 (2 ^ (c.number - 1))) 0

/-! ## LINES and ROUTES (R149, R152, R188) -/

/-- LINES: DOOR bit 0, BOX bit 1, KEY bit 2. -/
def Levels.word (l : Levels) : Word :=
  (if l.door then 1 else 0) ||| (if l.box then 2 else 0) ||| (if l.key then 4 else 0)

/-- A debounced level; a line not settled counts as deasserted. -/
def LineRegs.asserted (l : LineRegs) : Bool := l.level == some true

/-- The debounced levels. -/
def State.levels (s : State) : Levels :=
  { door := s.lines.door.asserted, box := s.lines.box.asserted, key := s.lines.key.asserted }

/-- The levels the LINES image shows (R149). -/
def State.shownLevels (s : State) : Levels :=
  match s.cash.latch with
  | .live => s.levels
  | .frozen l => l

/-- A ROUTES word: delegate mark high byte, effective route low byte (R188). -/
def RouteEntry.word (r : RouteEntry) : Word :=
  mkWord (if r.delegate then 1 else 0) (codeByte r.route.code)

/-- The sixteen ROUTES words. -/
def routeWords (routes : List RouteEntry) : List Word := routes.map RouteEntry.word

/-! ## INHIBIT (R14, R16) -/

/-- The escrow total. -/
def SaleUnit.escrowTotal (u : SaleUnit) : Nat := u.escrow.total

/-- TENDERED: coin pence plus card pence. -/
def SaleUnit.tendered (u : SaleUnit) : Nat := u.coinPence.toNat + u.cardPence.toNat

/-- INHIBIT after a LATE or TAKEN coin: the cap is reached or COIN is blocked (R14). -/
def State.inhibitNow (s : State) : Word :=
  flagWord (decide (s.sale.escrowTotal = s.cfg.escrowCap) || s.coinBlocked)

end Sys2Proof.Machine
end

