-- ==== Sys2Proof/Machine/Attention.lean ====
section
/-! DEFINITION. Attention: sources, the ATTN line, the coded vector, takes, ends of service, enables
(chapter 10), and the LINES latch that follows the CASH source (R149). -/

namespace Sys2Proof.Machine

/-- The rank of a source; a lower number is a higher rank (R166). -/
def Source.rank : Source → Nat
  | .sale => 0
  | .fault => 1
  | .cash => 2
  | .book => 3
  | .roll => 4

/-- The sources from the highest rank to the lowest. -/
def Source.list : List Source := [.sale, .fault, .cash, .book, .roll]

/-- A source's state. -/
def Sources.get (q : Sources) : Source → SourceRegs
  | .sale => q.sale
  | .fault => q.fault
  | .cash => q.cash
  | .book => q.book
  | .roll => q.roll

/-- Put a source's state. -/
def Sources.set (q : Sources) (x : Source) (r : SourceRegs) : Sources :=
  match x with
  | .sale => { q with sale := r }
  | .fault => { q with fault := r }
  | .cash => { q with cash := r }
  | .book => { q with book := r }
  | .roll => { q with roll := r }

/-- The source is enabled and pending. -/
def Sources.calls (q : Sources) (x : Source) : Bool := (q.get x).enabled && (q.get x).pend

/-- The source outranks every in-service source (R166, R168). -/
def Sources.outranks (q : Sources) (x : Source) : Bool :=
  Source.list.all fun y => !(q.get y).serving || decide (x.rank < y.rank)

/-- The source a take would serve: the highest-ranked enabled pending source that outranks every
in-service source (R169). -/
def Sources.next (q : Sources) : Option Source :=
  Source.list.find? fun x => q.calls x && q.outranks x

/-- The coded vector over a base (R169). -/
def Sources.vector (q : Sources) (base : Word) : Word :=
  match q.next with
  | some x =>
    base + BitVec.ofNat 16 (2 * x.rank)
      + (if Source.list.any fun y => y != x && q.calls y then 1 else 0)
  | none => base + 14

/-- The coded vector of the state. -/
def State.vector (s : State) : Word := s.fault.sources.vector s.fault.vectorBase

/-- The ATTN line (R168): asserted in TRANSPARENT, and in RUNNING when a take would serve a source. -/
def State.attn (s : State) : Bool :=
  match s.path.mode with
  | .transparent => true
  | .running => s.fault.sources.next.isSome
  | .starting => false

/-- Ask for ATTN_PEEK to be rewritten when the vector differs from what it was (R169). -/
def State.peekIfMoved (s : State) (was : Word) : State :=
  if s.vector = was then s else s.rewrite .peek

/-- Raise a source with a notice (R167). -/
def State.raiseSource (s : State) (x : Source) (notice : Word) : State :=
  let r := s.fault.sources.get x
  let t := { s with fault.sources := s.fault.sources.set x
                      { r with notice := notice, pend := r.pend || r.enabled } }
  (t.rewrite (.notice x)).peekIfMoved s.vector

/-- SALE notices (R156, R167). -/
inductive SaleNotice where
  | saleVoided
  | coinInhibited
  | permitUncertain
  | saleNotice
deriving DecidableEq, Repr

/-- The codes of the SALE notices. -/
def SaleNotice.word : SaleNotice → Word
  | .saleVoided => 1
  | .coinInhibited => 2
  | .permitUncertain => 3
  | .saleNotice => 4

/-! ## The LINES latch (R149) -/

/-- Ask for LINES to be rewritten when its value differs from what it was. -/
def State.linesIfMoved (s : State) (was : Levels) : State :=
  if s.shownLevels = was then s else s.rewrite .lines

/-- Raise the CASH source with the compartment state code; a line change that finds the source enabled
and the latch live freezes the latch at the levels just after it (R149, R167). -/
def State.raiseCash (s : State) (byLine : Bool) : State :=
  let t := s.raiseSource .cash (codeWord s.cash.compartment.code)
  if byLine && t.fault.sources.cash.enabled && t.cash.latch == .live then
    { t with cash.latch := .frozen t.levels }
  else t

/-- Make the latch live. -/
def State.latchLive (s : State) : State :=
  { s with cash.latch := .live }.linesIfMoved s.shownLevels

/-- Attention has been taken from CASH: the latch becomes live, and if the debounced levels differ from
the frozen ones the source is raised again as for a line change (R149). -/
def State.cashTaken (s : State) : State :=
  match s.cash.latch with
  | .live => s
  | .frozen l => if s.levels = l then s.latchLive else s.latchLive.raiseCash true

/-! ## Takes, ends of service, enables -/

/-- A take (R170): the source the vector names, if any, loses its pending flag and goes in service. -/
def State.take (s : State) : State :=
  match s.fault.sources.next with
  | some x =>
    let r := s.fault.sources.get x
    let t := { s with fault.sources := s.fault.sources.set x { r with pend := false, serving := true }
                      fault.lastTake := s.vector }
    let u := if x = .cash then t.cashTaken else t
    (u.rewrite .take).rewrite .peek
  | none => { s with fault.lastTake := s.vector }.rewrite .take

/-- The highest-ranked source in service. -/
def Sources.inService (q : Sources) : Option Source := Source.list.find? fun x => (q.get x).serving

/-- ATTN_EOS (R171); ATTN_PEEK goes before EOS_RESP in the ready order (DESIGN CHOICE, log 42). -/
def State.endService (s : State) : State :=
  match s.fault.sources.inService with
  | some x =>
    let r := s.fault.sources.get x
    ({ s with fault.sources := s.fault.sources.set x { r with serving := false }
              fault.attnEos := 16 }.peekIfMoved s.vector).answer .eosResp
  | none => { s with fault.attnEos := 17 }.answer .eosResp

/-- A source after its enable flag is replaced (R172): disabling clears the pending flag. -/
def SourceRegs.enable (r : SourceRegs) (b : Bool) : SourceRegs :=
  { r with enabled := b, pend := r.pend && b }

/-- The sources after the five enables are replaced; bit n is the enable of rank n (R172). -/
def Sources.enable (q : Sources) (w : Word) : Sources :=
  { sale := q.sale.enable (w.getLsbD 0), fault := q.fault.enable (w.getLsbD 1)
    cash := q.cash.enable (w.getLsbD 2), book := q.book.enable (w.getLsbD 3)
    roll := q.roll.enable (w.getLsbD 4) }

/-- ATTN_ENABLE (R172); ATTN_PEEK goes before ENABLE_RESP in the ready order (DESIGN CHOICE, log 42). -/
def State.setEnables (s : State) (w : Word) : State :=
  let t := { s with fault.sources := s.fault.sources.enable w, fault.attnEnable := 16 }
  let u := if s.fault.sources.cash.enabled && !w.getLsbD 2 then t.latchLive else t
  (u.peekIfMoved s.vector).answer .enableResp

end Sys2Proof.Machine
end

