-- ==== Sys2Proof/Machine/Lock.lean ====
section
/-! DEFINITION. The roll lock (R92, R93). -/

namespace Sys2Proof.Machine

/-- The kinds of work from the highest rank to the lowest (R92). -/
def LockKind.list : List LockKind := [.commitStep, .search, .amendment, .scrub]

/-- The highest-ranked waiter. -/
def RollLock.best (l : RollLock) : Option LockKind :=
  LockKind.list.find? fun k => decide (k ∈ l.waiters)

/-- Hand a FREE lock to the highest-ranked waiter (R92); an amendment handed it goes to APPLYING (R110), and a commit
permit step takes today (R105). -/
def State.lockPass (s : State) : State :=
  match s.permit.lock.holder, s.permit.lock.best with
  | none, some k =>
    { s with
      permit.lock := { holder := some k, waiters := s.permit.lock.waiters.filter (· != k) }
      permit.commitDay := if k = .commitStep then todayOf s.time.minute else s.permit.commitDay
      permit.amend := if k = .amendment then .applying else s.permit.amend }
  | _, _ => s

/-- Ask for the lock: the work becomes a waiter, each kind once (R92). -/
def State.lockAsk (s : State) (k : LockKind) : State :=
  { s with permit.lock.waiters :=
      if k ∈ s.permit.lock.waiters then s.permit.lock.waiters
      else s.permit.lock.waiters ++ [k] }.lockPass

/-- The holder releases the lock (R92). -/
def State.lockRelease (s : State) : State := { s with permit.lock.holder := none }.lockPass

/-- A waiter is withdrawn before it is handed the lock (R93). -/
def State.lockWithdraw (s : State) (k : LockKind) : State :=
  { s with permit.lock.waiters := s.permit.lock.waiters.filter (· != k) }

/-- The amendment engine asks for the lock when the queue is not empty and it is IDLE (R110); it takes
entries in RUNNING only (R183). -/
def State.amendKick (s : State) : State :=
  if s.path.mode = .running ∧ s.permit.amend = .idle ∧ s.permit.head ≠ s.permit.handed then
    { s with permit.amend := .waiting }.lockAsk .amendment
  else s

/-- The search in flight is abandoned (R103): waiting, it is withdrawn at once; holding the lock, it
ends at its next step (log 28). -/
def State.dropSearch (s : State) : State :=
  if s.permit.search.isSome then
    if s.permit.lock.holder = some .search ∧ s.permit.dying = false then
      { s with permit.search := none, permit.dying := true }
    else { s with permit.search := none }.lockWithdraw .search
  else s

end Sys2Proof.Machine
end

