-- ==== Sys2Proof/Machine/Pricing.lean ====
section
/-! DEFINITION. The pricing engine: band lookup, the band walk, rounding, limits and results
(chapter 3), and how the sale unit starts and abandons runs (R17, R18). -/

namespace Sys2Proof.Machine

/-! ## Band lookup (R50, R51) -/

/-- A band lookup's answer: day type, band index, the band, and the machine minute at which it ends. -/
structure Found where
  dayType : Nat
  index : Nat
  band : Band
  finish : Nat
deriving DecidableEq, Repr

/-- The band an empty cache gives: NO_PARKING, with no treatment (R52). -/
def Band.noParking : Band :=
  { start := 0, kind := .noParking, rounding := .down, rate := 0, unit := 0, resident := 0
    visitor := 0, trade := 0 }

/-- The day type of a day: the first exception for it, else the weekday map (R50). -/
def ZoneSection.dayTypeOf (z : ZoneSection) (day : Nat) : Nat :=
  match z.exceptions.find? fun e => e.1 == day % 65536 with
  | some e => e.2
  | none => z.weekdays.getD ((day + 5) % 7) 0

/-- The number of bands that start at or before a minute of day: the band in force is the last (R50). -/
def startedBands (bands : List Band) (minute : Nat) : Nat :=
  (bands.filter fun b => decide (b.start ≤ minute)).length

/-- Band lookup in a section (R50). -/
def ZoneSection.find (z : ZoneSection) (m : Nat) : Found :=
  let day := dayOf m
  let dt := z.dayTypeOf day
  let bands := z.dayTypes.getD dt []
  let i := startedBands bands (m % 1440) - 1
  { dayType := dt, index := i, band := bands.getD i Band.noParking
    finish := day * 1440 + ((bands.map Band.start).getD (i + 1) 1440) }

/-- Band lookup in the cache; an empty cache gives day type 0, band 0, NO_PARKING (R52). -/
def bandAt (cache : Option BookCache) (m : Nat) : Found :=
  match cache with
  | some b => b.zone.find m
  | none => { dayType := 0, index := 0, band := Band.noParking, finish := dayOf m * 1440 + 1440 }

/-- The treatment byte of a band for a category (R51). -/
def Band.treatment (b : Band) (category : Byte) : Byte :=
  if category = 1 then b.resident else if category = 2 then b.visitor else b.trade

/-- The effective rate of a CHARGED band; `permit` is the category of a VALID permit (R51). -/
def Band.effectiveRate (b : Band) (permit : Option Byte) : Nat :=
  match permit with
  | none => b.rate
  | some c =>
    let d := if b.treatment c = 255 then 0 else (b.treatment c).toNat
    b.rate * (100 - d) / 100

/-- The band is CHARGED at an effective rate of 0. -/
def Band.chargedFree (b : Band) (permit : Option Byte) : Bool :=
  b.kind == .charged && b.effectiveRate permit == 0

/-- BAND_INFO: day type in the high byte, band index in the low byte (R63). -/
def bandInfo (dayType index : Nat) : Word := mkWord (codeByte dayType) (codeByte index)

/-! ## The walk -/

/-- The walk limit: seven days, and never past FFFFFFFEh (R55, R62). -/
def walkLimit (t0 : Nat) : Nat := min (t0 + 10080) 0xFFFFFFFE

/-- The minutes moved for q = num / den minutes by a rounding mode (R58); FROM_BOOK is resolved before. -/
def roundMinutes (mode : Rounding) (num den : Nat) : Nat :=
  let q := num / den
  let r := num % den
  match mode with
  | .down => q
  | .up => if r = 0 then q else q + 1
  | .nearestTiesUp => if den ≤ 2 * r then q + 1 else q
  | .nearestTiesDown => if den < 2 * r then q + 1 else q
  | .fromBook => q

/-- The rounding mode of a band, FROM_BOOK being the zone default (R57, R58). -/
def ZoneSection.modeOf (z : ZoneSection) (b : Band) : Rounding :=
  if b.rounding = .fromBook then z.defaultRounding else b.rounding

/-- The look-ahead of R60: the first band from `m` on that is not FREE, before the limit, is CHARGED at
an effective rate of 0. `fuel` bounds the bands looked at (R48: at most 85). -/
def lookAhead (z : ZoneSection) (permit : Option Byte) (limit : Nat) : Nat → Nat → Bool
  | 0, _ => false
  | fuel + 1, m =>
    if limit ≤ m then false
    else
      let f := z.find m
      if f.band.kind = .free then lookAhead z permit limit fuel f.finish
      else f.band.chargedFree permit

/-- The result of a walk that stops (R63). -/
def PriceRun.finish (r : PriceRun) (bookId : Word) : PriceRun :=
  let flags := raiseFlag r.flags .overpaid (decide (0 < r.m))
  { r with
    flags := flags
    result := some
      { expiry := BitVec.ofNat 32 r.p, charge := BitVec.ofNat 16 (r.tendered - r.m)
        overpay := BitVec.ofNat 16 r.m, flags := flags, bandInfo := bandInfo r.dayType r.bandIndex
        bookId := bookId, pricedAt := BitVec.ofNat 32 r.t0 } }

/-- After a move within a CHARGED band: stop at the maximum stay or the walk limit (R62), else go on. -/
def PriceRun.afterCharged (r : PriceRun) (z : ZoneSection) (bookId : Word) : PriceRun :=
  let atLimit := decide (walkLimit r.t0 ≤ r.p)
  let full := decide (z.maxStay ≤ r.c)
  if full || atLimit then
    { r with flags := raiseFlag r.flags .clippedStay (atLimit || decide (0 < r.m)) }.finish bookId
  else r

/-- A step in a CHARGED band (R56 to R59, R62). A run that starts at the walk limit moves 0 minutes and ends there
(DESIGN CHOICE, log 39). -/
def PriceRun.chargedStep (r : PriceRun) (z : ZoneSection) (bookId : Word) (f : Found) : PriceRun :=
  let rate := f.band.effectiveRate r.permit
  let e := min (f.finish - r.p) (min (z.maxStay - r.c) (walkLimit r.t0 - r.p))
  let reduced := decide (rate < f.band.rate) && decide (0 < e)
  if rate = 0 then
    { r with p := r.p + e, c := r.c + e
             flags := raiseFlag r.flags .permitApplied reduced }.afterCharged z bookId
  else if r.m = 0 then r.finish bookId
  else if e * rate ≤ r.m * f.band.unit then
    { r with p := r.p + e, c := r.c + e, m := r.m - (e * rate + f.band.unit - 1) / f.band.unit
             flags := raiseFlag r.flags .permitApplied reduced }.afterCharged z bookId
  else
    let moved := roundMinutes (z.modeOf f.band) (r.m * f.band.unit) rate
    let rounded := decide (r.m * f.band.unit % rate ≠ 0)
    let flags := raiseFlag (raiseFlag r.flags .rounded rounded) .permitApplied
      (reduced && decide (0 < moved))
    { r with p := r.p + moved, c := r.c + moved, m := 0
             flags := raiseFlag flags .clippedStay (decide (walkLimit r.t0 ≤ r.p + moved)) }.finish bookId

/-- A step in a FREE band (R60); at the walk limit as in `PriceRun.chargedStep` (DESIGN CHOICE, log 39). -/
def PriceRun.freeStep (r : PriceRun) (z : ZoneSection) (bookId : Word) (f : Found) : PriceRun :=
  let limit := walkLimit r.t0
  if 0 < r.m ∨ (r.permit.isSome = true ∧ lookAhead z r.permit limit 100 f.finish = true) then
    let p := min f.finish limit
    let moved := { r with p := p, flags := raiseFlag r.flags .freeSpanned true }
    if p = limit then
      { moved with flags := raiseFlag moved.flags .clippedStay true }.finish bookId
    else moved
  else r.finish bookId

/-- One band of the walk, by the rule for its kind (R55). -/
def PriceRun.step (r : PriceRun) (b : BookCache) : PriceRun :=
  let f := b.zone.find r.p
  match f.band.kind with
  | .charged => r.chargedStep b.zone b.id f
  | .free => r.freeStep b.zone b.id f
  | .noParking =>
    { r with flags := raiseFlag r.flags .clippedNoParking (decide (0 < r.m)) }.finish b.id

/-! ## Runs -/

/-- The result of a run that ends before the walk (R52 to R54). -/
def shortResult (q : PriceRequest) (flags info bookId : Word) : PriceResult :=
  { expiry := BitVec.ofNat 32 q.t0, charge := 0, overpay := 0, flags := flags, bandInfo := info
    bookId := bookId, pricedAt := BitVec.ofNat 32 q.t0 }

/-- The result of a run that does not walk: with an empty cache (R52), with nothing tendered and no
VALID permit (R53), or below the minimum charge (R54). -/
def shortRun (cache : Option BookCache) (q : PriceRequest) : Option PriceResult :=
  match cache with
  | none => some (shortResult q 0 0 0)
  | some b =>
    let f := b.zone.find q.t0
    let info := bandInfo f.dayType f.index
    if q.tendered = 0 ∧ q.permit = none then some (shortResult q 0 info b.id)
    else if 0 < q.tendered ∧ q.tendered < b.zone.minCharge
        ∧ f.band.chargedFree q.permit = false then
      some (shortResult q PriceFlag.belowMinimum.word info b.id)
    else none

/-- A run as it starts (R48, R55). -/
def PriceRun.ofRequest (cache : Option BookCache) (q : PriceRequest) : PriceRun :=
  let f := bandAt cache q.t0
  { t0 := q.t0, tendered := q.tendered, permit := q.permit, p := q.t0, c := 0, m := q.tendered
    flags := 0, dayType := f.dayType, bandIndex := f.index, result := shortRun cache q }

/-- A price run is in flight for the sale: one that has not been abandoned without another (R7, R18). -/
def State.priceInFlight (s : State) : Bool := s.busy .price

/-- What the sale unit gives a run that it starts now (R17). -/
def State.priceRequest (s : State) : PriceRequest :=
  { t0 := s.time.minute.toNat, tendered := s.sale.tendered
    permit := s.sale.permit.map PermitInUse.category }

/-- The sale unit starts a price run and owes PRICE; a run in flight is overtaken (R17, R18, R49). -/
def State.startPrice (s : State) : State :=
  let q := s.priceRequest
  let t :=
    match s.tariff.engine.run with
    | none =>
      { s with tariff.engine := { run := some (PriceRun.ofRequest s.tariff.cache q), overtaken := .no } }
    | some r => { s with tariff.engine := { run := some r, overtaken := .restart q } }
  t.owe .price

/-- The sale unit abandons a run in flight without starting another: PRICE is then written from the
last completed price (R18). -/
def State.abandonPrice (s : State) : State :=
  if s.priceInFlight then { s with tariff.engine.overtaken := .stop }.report .price else s

/-- The engine ends an overtaken run at its next step: it becomes IDLE, or starts the new run (R49). -/
def State.endOvertaken (s : State) : State :=
  match s.tariff.engine.overtaken with
  | .no => s
  | .stop => { s with tariff.engine := { run := none, overtaken := .no } }
  | .restart q =>
    { s with tariff.engine := { run := some (PriceRun.ofRequest s.tariff.cache q), overtaken := .no } }

/-- BAND_STEP (R55): an overtaken run ends; a run that walks takes one band. -/
def State.bandStep (s : State) : State :=
  match s.tariff.engine.run with
  | none => s
  | some r =>
    if s.tariff.engine.overtaken ≠ .no then s.endOvertaken
    else
      match r.result, s.tariff.cache with
      | none, some b => { s with tariff.engine.run := some (r.step b) }
      | _, _ => s

/-- PRICE_RUN_COMPLETE (R64): an overtaken run's result is never seen (R49). -/
def State.priceRunComplete (s : State) : State :=
  match s.tariff.engine.run with
  | none => s
  | some r =>
    match r.result with
    | none => s
    | some result =>
      if s.tariff.engine.overtaken ≠ .no then s.endOvertaken
      else
        { s with tariff.engine := { run := none, overtaken := .no }
                 sale.price := result }.report .price

end Sys2Proof.Machine
end

