-- ==== Sys2Proof/Machine/Closing.lean ====
section
/-! DEFINITION. The images of a sale's close and of a period close, the closing intent, the open
period's updates and what waits for a close (R124, R127, R128, R132, R146), and how a void begins (R22). -/

namespace Sys2Proof.Machine

/-! ## Images of a sale's close (R132) -/

/-- The close in hand is a commit's: the sale is COMMITTING. -/
def SaleUnit.commits (u : SaleUnit) : Bool := u.state == .committing

/-- The journal entry image (R132, R189). A sale with no permit in use records the context's last
verdict with category 0 and number 0 (log 19). -/
def State.journalImage (s : State) : List Word :=
  let u := s.sale
  let commit := u.commits
  let category := (u.permit.map PermitInUse.category).getD 0
  let number := (u.permit.map PermitInUse.number).getD 0
  withCheck
    (dwords u.number
      ++ [if commit then 1 else 2, if commit then 0 else codeWord u.voidReason.code]
      ++ dwords s.minuteOrNone ++ dwords u.price.pricedAt ++ dwords u.price.expiry
      ++ [u.price.bookId, u.price.bandInfo, u.coinPence, u.cardPence,
          if commit then u.price.charge else 0, if commit then u.price.overpay else 0,
          u.refundDue, sum16 u.escrowTotal, u.price.flags,
          mkWord (codeByte u.verdict.code) category]
      ++ dwords number ++ [u.lateTotal])

/-- A 16-bit count that stays at 65535 (R127). -/
def bump (w : Word) (n : Nat) : Word := sat16 (w.toNat + n)

/-- A 32-bit total that gains an amount (log 10). -/
def gain (d : DWord) (n : Nat) : DWord := sum32 (d.toNat + n)

/-- The open period with a close's changes applied (R127), its spare words 0 (R185). -/
def State.periodAfter (s : State) : PeriodRecord :=
  let u := s.sale
  let p := s.cash.period.spared
  let first := if p.firstSeq = 0 then u.number else p.firstSeq
  let lates := bump p.lateCoins u.lateTotal.toNat
  if u.commits then
    { p with
      committed := bump p.committed 1
      permitSales := if u.commitFlags.getLsbD 0 then bump p.permitSales 1 else p.permitSales
      cardPence := gain p.cardPence u.cardPence.toNat
      chargePence := gain p.chargePence u.price.charge.toNat
      overpayPence := gain p.overpayPence u.price.overpay.toNat
      vaulted := addCounts p.vaulted u.escrow
      refunded := addWide p.refunded u.late
      firstSeq := first, lastSeq := u.number, lateCoins := lates }
  else
    { p with
      voided := bump p.voided 1
      refunded := addWide (addWide p.refunded u.escrow) u.late
      firstSeq := first, lastSeq := u.number, lateCoins := lates }

/-- The tally with a close's changes applied: a commit's escrow, nothing for a void (R125, R132). -/
def State.tallyAfter (s : State) : Tally :=
  let u := s.sale
  let t := s.cash.tally
  if u.commits then
    { counts := addCounts t.counts u.escrow, coins := sum16 (t.coins.toNat + u.escrowTotal)
      value := gain t.value u.coinPence.toNat }
  else t

/-- The close of the current sale with its images formed (R132). -/
def State.saleCloseImages (s : State) : Close :=
  { kind := if s.sale.commits then .commit else .void
    number := s.sale.number
    journal := s.journalImage
    period := s.periodAfter.words
    box := s.tallyAfter.words
    permit := if s.sale.commits then s.sale.permitPart else none
    stepDone := 0, saleWritten := false, tenderWritten := false }

/-- Step 2 of a sale's close: the images are formed and the intent is written, ARMED last (R132). -/
def State.formSaleClose (s : State) : State :=
  let c := s.saleCloseImages
  { s with cash.close := some c }.armIntent c

/-- The open period is free for an update: no close holds it and nothing waits before (R128). -/
def State.periodFree (s : State) : Bool := s.cash.close.isNone && s.cash.waiting.isEmpty

/-- Put work at the end of what waits for the close in hand (R128). -/
def State.cashWait (s : State) (w : CashWork) : State :=
  { s with cash.waiting := s.cash.waiting ++ [w] }

/-- A sale's close waits, at the place kept for it or behind everything else (R128, R146). -/
def State.saleCloseWaits (s : State) : State :=
  if s.cash.waiting.contains .saleComes then
    { s with cash.waiting := s.cash.waiting.replace .saleComes .saleClose }
  else s.cashWait .saleClose

/-- The sale unit hands a close to the cash unit (R9, R22); it waits while a period close is in flight
(R146), before a period close that fell due after its sale went COMMITTING. A close formed at once goes before a period
close that waits (DESIGN CHOICE, log 36), so no place is kept for it any more. -/
def State.handClose (s : State) : State :=
  if s.cash.close.isNone then
    { s with cash.waiting := s.cash.waiting.filter (· != CashWork.saleComes) }.formSaleClose
  else s.saleCloseWaits

/-! ## Updates of the open period (R124, R128, R138) -/

/-- Write a changed word of the open period and then its check word (R128). -/
def State.putPeriodWord (s : State) (k : Nat) (w : Word) : State :=
  (s.putCell .cash (periodBase + k) w).putCell .cash (periodBase + 63) (crc s.cash.period.body)

/-- Add a stray coin to the open period (R124). -/
def State.applyStray (s : State) (d : Fin 8) : State :=
  let n := bump s.cash.period.stray[d] 1
  { s with cash.period.stray := s.cash.period.stray.set d n }.putPeriodWord (24 + d) n

/-- Add a forced entry to the open period (R138). -/
def State.applyForcedEntry (s : State) : State :=
  let n := bump s.cash.period.intrusions 1
  { s with cash.period.intrusions := n }.putPeriodWord 52 n

/-- A stray coin: added now, or once the close in hand has ended (R128). -/
def State.strayCoin (s : State) (d : Fin 8) : State :=
  if s.periodFree then s.applyStray d else s.cashWait (.stray d)

/-- A forced entry: added now, or once the close in hand has ended (R128). -/
def State.forcedEntry (s : State) : State :=
  if s.periodFree then s.applyForcedEntry else s.cashWait .forcedEntry

/-- Take what waited, in order, until a close takes the open period or waits for PERIOD_CLOSE (R128, R146). A place
kept for a sale's close that has not been handed over is given up when it is reached: `State.saleCloseComes` then holds
the period close back. -/
def State.drainList (s : State) : List CashWork → State
  | [] => { s with cash.waiting := [] }
  | .stray d :: rest => (s.applyStray d).drainList rest
  | .forcedEntry :: rest => s.applyForcedEntry.drainList rest
  | .periodClose :: rest => { s with cash.waiting := .periodClose :: rest }
  | .saleClose :: rest => { s with cash.waiting := rest }.formSaleClose
  | .saleComes :: rest => s.drainList rest

/-- A close has ended: what waited is taken. -/
def State.drainCash (s : State) : State := s.drainList s.cash.waiting

/-! ## Period close (R146, R147) -/

/-- The images of a period close (R146). -/
def State.periodCloseImages (s : State) : Close :=
  let closed := { s.cash.period.spared with closed := s.minuteOrNone, closeKind := 1 }
  { kind := .period, number := s.cash.period.number, journal := List.replicate 24 0
    period := closed.words, box := Tally.zero.words, permit := none, stepDone := 0
    saleWritten := false, tenderWritten := false }

/-- A sale is COMMITTING or VOIDING and has not handed its close over yet: a period close waits (R146). -/
def State.saleCloseComes (s : State) : Bool :=
  (s.sale.state == .committing || s.sale.state == .voiding) && !s.cash.waiting.contains .saleClose

/-- A period close that falls due waits for a sale's close that is still to be handed over, behind a period close in
flight: a place is kept for the sale's close (R146), unless one is kept already. -/
def State.keepsPlace (s : State) : Bool :=
  s.saleCloseComes && !s.cash.waiting.contains .saleComes && s.cash.close.any fun c => c.kind == .period

/-- What a period close that falls due adds to the work that waits (R146). -/
def State.dueWork (s : State) : List CashWork :=
  if s.keepsPlace then [.saleComes, .periodClose] else [.periodClose]

/-- PERIOD_CLOSE (R146): a due period close is taken once no sale close is in flight. -/
def State.takePeriodClose (s : State) : State :=
  match s.cash.close, s.cash.waiting with
  | none, .periodClose :: rest =>
    if s.saleCloseComes then s
    else
      let c := s.periodCloseImages
      { s with cash.close := some c, cash.waiting := rest }.armIntent c
  | _, _ => s

/-! ## Void (R22, R23) -/

/-- The refund of a void: escrow and late coins, at most 65535 (R22). -/
def State.voidRefund (s : State) : Word :=
  sat16 (penceOf s.sale.escrow s.cfg.denoms + penceOf s.sale.late s.cfg.denoms)

/-- The refund of a commit: the late coins, at most 65535 (R9). -/
def State.commitRefund (s : State) : Word := sat16 (penceOf s.sale.late s.cfg.denoms)

/-- A permit search in flight is abandoned by the void, with NO_SALE in PERMIT_REQ (R22, R104). -/
def State.voidSearch (s : State) : State :=
  if s.permit.search.isSome then
    { s.dropSearch with permit.permitReq := codeWord Verdict.noSale.code }.report .permitResp
  else s

/-- A void begins (R22): the context goes to VOIDING, a waiting COMMIT is answered BAD_STATE (R7, R23),
the search and the price run are abandoned and a close of kind VOID is handed to the cash unit; PERMIT_RESP goes
before PRICE in the ready order (DESIGN CHOICE, log 46). -/
def State.beginVoid (s : State) (reason : VoidReason) : State :=
  let t := { s with
    sale.state := .voiding
    sale.voidReason := reason
    sale.saleCmd := if s.sale.waitCommit then 17 else s.sale.saleCmd
    sale.waitCommit := false
    sale.recordStep := false
    sale.permitPart := none }
  let u := ((t.owe .saleResp).owe .tenderResp).voidSearch.abandonPrice
  let refund := u.voidRefund
  { u with sale.refundDue := refund, sale.commitFlags := commitFlagsOf false refund 0 false }.handClose

end Sys2Proof.Machine
end

