-- ==== Sys2Proof/Machine/Faults.lean ====
section
/-! DEFINITION. The stop set and the raising of faults (R152 to R163). -/

namespace Sys2Proof.Machine

/-! ## The stop set (R161, R162) -/

/-- Add a condition (R161). The second part says whether it voided the sale. -/
def State.addCondition (s : State) (c : Condition) : State × Bool :=
  if c ∈ s.fault.stop then (s, false)
  else
    let t := { s with fault.stop := s.fault.stop ++ [c] }.rewrite .stopSet
    if t.sale.state = .opened then
      match c.voids with
      | some reason => (t.beginVoid reason, true)
      | none =>
        if c.blocksCoin then ({ t with sale.inhibit := 1 }.answer .tenderResp, false) else (t, false)
    else (t, false)

/-- Add a condition without a fault record; a void it starts raises SALE with SALE_VOIDED (R161). -/
def State.require (s : State) (c : Condition) : State :=
  let r := s.addCondition c
  if r.2 then r.1.raiseSource .sale SaleNotice.saleVoided.word else r.1

/-- Remove a condition (R162); the last one that blocks COIN resets INHIBIT of an OPEN sale (R16). -/
def State.removeCondition (s : State) (c : Condition) : State :=
  if c ∈ s.fault.stop then
    let t := { s with fault.stop := s.fault.stop.filter (· != c) }.rewrite .stopSet
    if c.blocksCoin && !t.coinBlocked && t.sale.state == .opened then
      { t with sale.inhibit := t.inhibitNow }.answer .tenderResp
    else t
  else s

/-! ## Raising a fault (R153 to R156) -/

/-- The condition a STOP route of the class adds (R151). -/
def FaultClass.condition : FaultClass → Option Condition
  | .tariffBad => some .tariffBad
  | .rollSeek => some .rollDown
  | .journalFull => some .journalFull
  | .boxFull => some .boxFull
  | .intrusion => some .intrusion
  | .boxAbsent => some .boxAbsent
  | .machine => some .machineStop
  | .bookRejected | .flashTimeout | .recordCrc | .rollFull | .periodRingFull | .boxNear | .staleRead
  | .windowViolation | .recovery => none

/-- The effective route of a class; with no routes loaded nothing is raised (log 33). -/
def State.routeOf (s : State) (cls : FaultClass) : RouteEntry :=
  s.fault.routes.getD (cls.code - 1) { route := .log, delegate := false }

/-- A sale is in progress: OPEN, COMMITTING or VOIDING (R153). -/
def SaleState.inProgress : SaleState → Bool
  | .opened | .committing | .voiding => true
  | .idle | .closed | .void => false

/-- The record of a raising as it is taken; the sequence is put when it is stored (R153). -/
def State.faultRecord (s : State) (cls : FaultClass) (sub : Byte) (detail : Word) : FaultRecord :=
  { cls := cls, sub := sub, seq := 0, minute := s.minuteOrNone
    saleNumber := if s.sale.state.inProgress then s.sale.number else 0
    detail := detail, saleState := s.sale.state, followers := 0 }

/-- Count a follower on the newest record; a count at 255 stays (R154). -/
def addFollower : List FaultRecord → List FaultRecord
  | [] => []
  | [r] => [{ r with followers := if r.followers = 255 then 255 else r.followers + 1 }]
  | r :: rest => r :: addFollower rest

/-- Store a record, or count it as a follower of the newest when the list holds 10 (R154). -/
def State.storeFault (s : State) (r : FaultRecord) : State :=
  if s.fault.list.length < 10 then
    { s with fault.seq := s.fault.seq + 1
             fault.list := s.fault.list ++ [{ r with seq := s.fault.seq + 1 }] }
  else { s with fault.list := addFollower s.fault.list }

/-- The notice of a delegated raising (R156). -/
def translated (cls : FaultClass) (voided : Bool) : SaleNotice :=
  match cls with
  | .tariffBad | .intrusion | .machine => if voided then .saleVoided else .saleNotice
  | .boxFull | .boxAbsent => .coinInhibited
  | .rollSeek | .recordCrc | .rollFull => .permitUncertain
  | .bookRejected | .flashTimeout | .journalFull | .periodRingFull | .boxNear | .staleRead
  | .windowViolation | .recovery => .saleNotice

/-- The attention of a raising (R156): `state` is the sale state recorded, `voided` whether its
condition voided the sale; FAULT is then raised before SALE (DESIGN CHOICE, log 46). -/
def State.attend (s : State) (cls : FaultClass) (delegate : Bool) (state : SaleState)
    (voided : Bool) : State :=
  if delegate && state.inProgress then s.raiseSource .sale (translated cls voided).word
  else
    let t := s.raiseSource .fault (codeWord cls.code)
    if voided then t.raiseSource .sale SaleNotice.saleVoided.word else t

/-- Apply the route of a class (R155). -/
def State.applyRoute (s : State) (cls : FaultClass) (state : SaleState) : State :=
  let e := s.routeOf cls
  match e.route with
  | .log => s
  | .attend => s.attend cls e.delegate state false
  | .stop =>
    match cls.condition with
    | some c =>
      let r := s.addCondition c
      r.1.attend cls e.delegate state r.2
    | none => s.attend cls e.delegate state false

/-- Raise a fault with a sub-code (R153 to R156). -/
def State.raiseSub (s : State) (cls : FaultClass) (sub : Byte) (detail : Word) : State :=
  (s.storeFault (s.faultRecord cls sub detail)).applyRoute cls s.sale.state

/-- Raise a fault (R153 to R156). -/
def State.raise (s : State) (cls : FaultClass) (detail : Word) : State := s.raiseSub cls 0 detail

/-! ## Fault list, reports and service requests (R157, R158, R164) -/

/-- A FAULT_CMD request (R157): POP moves the oldest record to the view register. -/
def State.takeFaultCmd (s : State) (v : Word) : State :=
  let t :=
    if v = 1 then
      match s.fault.list with
      | r :: rest => { s with fault.list := rest, fault.view := r.words, fault.faultCmd := 16 }
      | [] => { s with fault.view := List.replicate 8 0, fault.faultCmd := 17 }
    else { s with fault.faultCmd := 18 }
  t.answer .faultResp

/-- A REPORT_CMD request (R158). -/
def State.takeReport (s : State) (v : Word) : State :=
  if 1 ≤ v.toNat ∧ v.toNat ≤ 255 then
    { s.raiseSub .machine (loByte v) 0 with fault.reportCmd := 16 }.answer .reportResp
  else { s with fault.reportCmd := 17 }.answer .reportResp

/-- The condition a CLEAR_STOP may clear, by its number (R164). -/
def clearable (n : Byte) : Option Condition :=
  if n = 8 then some .machineStop else if n = 10 then some .rollDown else none

/-- A SERVICE_CMD request (R164): the low byte is the request, the high byte a condition number. -/
def State.takeService (s : State) (v : Word) : State :=
  let done (t : State) (code : Word) : State := { t with fault.serviceCmd := code }.answer .serviceResp
  match (loByte v).toNat with
  | 1 => done (s.require .salesOff) 16
  | 2 => done (s.removeCondition .salesOff) 16
  | 3 =>
    match clearable (hiByte v) with
    | some c => done (s.removeCondition c) 16
    | none => done s 17
  | _ => done s 18

end Sys2Proof.Machine
end

