-- ==== Sys2Proof/Machine/Sale.lean ====
section
/-! DEFINITION. The sale unit: requests, tenders, the wait and checks of a COMMIT, a withdrawn permit,
CLEAR (chapter 1). -/

namespace Sys2Proof.Machine

/-! ## A changeover that waits for the sale (R83) -/

/-- The sale context lets a changeover be begun: IDLE, CLOSED or VOID (R82). -/
def SaleState.quiet : SaleState → Bool
  | .idle | .closed | .void => true
  | .opened | .committing | .voiding => false

/-- Begin a due changeover if the sale context allows it: the changeover mark is set (R82, R83). One whose step 1 has
failed waits for the next minute mark (R84). -/
def State.beginChangeover (s : State) : State :=
  if s.tariff.due ∧ s.tariff.retry = false ∧ s.tariff.change = none ∧ s.sale.state.quiet = true then
    { s with tariff.change := some .toActivate }
  else s

/-! ## OPEN (R5, R6, R130) -/

/-- The free slots of the journal (R130). -/
def State.freeSlots (s : State) : Nat :=
  513 + s.cash.exportMark.toNat - s.cash.nextSeq.toNat - (if s.cash.reserved then 1 else 0)

/-- Reserve the next journal sequence; JOURNAL_FULL is raised when no slot is left (R130, log 18). -/
def State.reserve (s : State) : State :=
  let t := { s with cash.reserved := true }.putCell .cash 16 1
  if t.freeSlots = 0 then t.raise .journalFull (loWord t.cash.nextSeq) else t

/-- Answer a SALE_CMD request. -/
def State.saleAnswer (s : State) (code : Word) : State :=
  { s with sale.saleCmd := code }.answer .saleResp

/-- An accepted OPEN (R6); SALE_RESP goes before TENDER_RESP in the ready order (DESIGN CHOICE, log 46). -/
def State.acceptOpen (s : State) : State :=
  let t := s.reserve
  let u := { t with
    sale.state := .opened
    sale.number := s.cash.nextSeq
    sale.escrow := Eight.all 0
    sale.late := Eight.all 0
    sale.lateTotal := 0
    sale.coinPence := 0
    sale.cardPence := 0
    sale.permit := none
    sale.verdict := .none
    sale.voidReason := .none
    sale.idle := 0
    sale.coinIn := 0
    sale.cardIn := 0
    sale.refundDue := 0
    sale.commitFlags := 0
    sale.inhibit := flagWord t.coinBlocked }
  ((u.saleAnswer 16).answer .tenderResp).startPrice

/-- The checks of an OPEN taken in IDLE with no changeover (R5). -/
def State.openChecks (s : State) : State :=
  if s.fault.stop.any fun c => c.blocksOpen && c != .journalFull then s.saleAnswer 18
  else if s.freeSlots = 0 then s.saleAnswer 19
  else s.acceptOpen

/-- OPEN taken in IDLE: it waits while a changeover is being taken (R5). -/
def State.takeOpen (s : State) : State :=
  if s.tariff.change.isSome then { s with sale.waitOpen := true } else s.openChecks

/-- The changeover has ended: a waiting OPEN is taken as if it had just arrived (R5, R83). -/
def State.releaseOpen (s : State) : State :=
  if s.sale.waitOpen then { s with sale.waitOpen := false }.openChecks else s

/-! ## CLEAR (R13) -/

/-- The sale unit after CLEAR: the sale number is kept. -/
def SaleUnit.cleared (u : SaleUnit) : SaleUnit :=
  { u with
    state := .idle, permit := none, verdict := .none, coinPence := 0, cardPence := 0
    price := PriceResult.zero, voidReason := .none, idle := 0, escrow := Eight.all 0
    late := Eight.all 0, lateTotal := 0, saleCmd := 16, coinIn := 0, cardIn := 0, refundDue := 0
    commitFlags := 0, inhibit := 0, recordStep := false, permitPart := none }

/-- The sale record is written as CLEAR leaves it (R13), its groups in this order (DESIGN CHOICE, log 46). -/
def State.clearSale (s : State) : State :=
  let t := { s with sale := s.sale.cleared, permit.permitReq := 0 }
  (((t.answer .saleResp).answer .tenderResp).answer .price).answer .permitResp

/-- CLEAR taken in CLOSED or VOID; the tariff unit is told (R13). -/
def State.takeClear (s : State) : State := s.clearSale.beginChangeover

/-! ## Requests (R4, R5, R7, R12, R13) -/

/-- A SALE_CMD request taken outside a close (R4, R20). -/
def State.takeSaleCmd (s : State) (v : Word) : State :=
  let s := if s.sale.state = .opened then { s with sale.idle := 0 } else s
  match v.toNat with
  | 1 => if s.sale.state = .idle then s.takeOpen else s.saleAnswer 17
  | 2 => if s.sale.state = .opened then { s with sale.waitCommit := true } else s.saleAnswer 17
  | 3 =>
    if s.sale.state = .opened then { s with sale.saleCmd := 16 }.beginVoid .abandoned
    else s.saleAnswer 17
  | 4 =>
    if s.sale.state = .closed ∨ s.sale.state = .void then s.takeClear else s.saleAnswer 17
  | _ => s.saleAnswer 24

/-! ## Tenders (R14, R15) -/

/-- Answer a coin. -/
def State.coinAnswer (s : State) (code : Word) : State :=
  { s with sale.coinIn := code }.answer .tenderResp

/-- A LATE coin (R14). -/
def State.lateCoin (s : State) (d : Fin 8) : State :=
  let t := { s with sale.late := s.sale.late.set d (bump s.sale.late[d] 1)
                    sale.lateTotal := bump s.sale.lateTotal 1, sale.idle := 0 }
  { t with sale.inhibit := t.inhibitNow }.coinAnswer 17

/-- A TAKEN coin (R14). -/
def State.takenCoin (s : State) (d : Fin 8) : State :=
  let t := { s with sale.escrow := s.sale.escrow.set d (sum16 (s.sale.escrow[d].toNat + 1))
                    sale.coinPence := sum16 (s.sale.coinPence.toNat + s.cfg.denoms[d].toNat)
                    sale.idle := 0 }
  ({ t with sale.inhibit := t.inhibitNow }.coinAnswer 16).startPrice

/-- A coin is LATE (R14): the cap is reached, COIN is blocked, or TENDERED would pass 65535. -/
def State.coinIsLate (s : State) (d : Fin 8) : Bool :=
  decide (s.sale.escrowTotal = s.cfg.escrowCap) || s.coinBlocked
    || decide (65535 < s.sale.tendered + s.cfg.denoms[d].toNat)

/-- A coin reported to COIN_IN outside a close (R14). -/
def State.takeCoin (s : State) (v : Word) : State :=
  if h : v.toNat < 8 then
    let d : Fin 8 := ⟨v.toNat, h⟩
    if s.cfg.denoms[d] = 0 then s.coinAnswer 19
    else if s.sale.state ≠ .opened then (s.strayCoin d).coinAnswer 18
    else if s.coinIsLate d then s.lateCoin d
    else s.takenCoin d
  else s.coinAnswer 19

/-- Answer a card payment. -/
def State.cardAnswer (s : State) (code : Word) : State :=
  { s with sale.cardIn := code }.answer .tenderResp

/-- A card payment reported to CARD_IN outside a close (R15). -/
def State.takeCard (s : State) (v : Word) : State :=
  if s.sale.state ≠ .opened then s.cardAnswer 18
  else if v = 0 then s.cardAnswer 20
  else if 65535 < s.sale.tendered + v.toNat then s.cardAnswer 21
  else
    ({ s with sale.cardPence := sum16 (s.sale.cardPence.toNat + v.toNat)
              sale.idle := 0 }.cardAnswer 16).startPrice

/-- Work taken outside a close. -/
def State.takeSaleNow (s : State) : SaleWork → State
  | .cmd v => s.takeSaleCmd v
  | .coin v => s.takeCoin v
  | .card v => s.takeCard v

/-- Work handed to the sale unit: during a close it waits until the close has ended (R10, R22). -/
def State.takeSaleWork (s : State) (w : SaleWork) : State :=
  if s.sale.state = .committing ∨ s.sale.state = .voiding then
    { s with sale.held := s.sale.held ++ [w] }
  else s.takeSaleNow w

/-- The close has ended: what waited is taken, in order (R10, R22). -/
def State.takeHeld (s : State) : State :=
  s.sale.held.foldl State.takeSaleNow { s with sale.held := [] }

/-! ## COMMIT (R7 to R9, R11) -/

/-- A permit in use makes the stay free at the priced minute (R8). -/
def State.permitFree (s : State) : Bool :=
  match s.sale.permit with
  | some p => (bandAt s.tariff.cache s.sale.price.pricedAt.toNat).band.chargedFree (some p.category)
  | none => false

/-- The refusal of a COMMIT, if any, in the order of R8. -/
def State.commitRefusal (s : State) : Option Word :=
  if s.sale.tendered = 0 ∧ s.permitFree = false then some 20
  else if 0 < s.sale.tendered ∧ hasFlag s.sale.price.flags .belowMinimum = true then some 21
  else if 0 < s.sale.escrowTotal ∧ s.stopped .boxAbsent = true then some 23
  else none

/-- Hand a commit's close to the cash unit with the permit part of a passed permit step (R9). -/
def State.handCommit (s : State) (part : Option PermitPart) : State :=
  let refund := s.commitRefund
  { s with
    sale.permitPart := part
    sale.refundDue := refund
    sale.commitFlags := commitFlagsOf part.isSome refund s.sale.price.overpay true }.handClose

/-- A COMMIT that passes its checks (R9). -/
def State.passCommit (s : State) : State :=
  let t := ({ s with sale.state := .committing, sale.waitCommit := false, sale.recordStep := false
                     sale.permitPart := none }.owe .saleResp).owe .tenderResp
  if t.sale.permit.isSome then t.lockAsk .commitStep else t.handCommit none

/-- COMMIT_WAIT_END (R7, R8): the sale is OPEN and quiet. -/
def State.commitWaitEnd (s : State) : State :=
  if s.sale.waitCommit ∧ s.sale.state = .opened ∧ s.priceInFlight = false
      ∧ s.permit.search = none then
    match s.commitRefusal with
    | some code => { s with sale.waitCommit := false }.saleAnswer code
    | none => s.passCommit
  else s

/-- The permit is withdrawn at commit (R11): back to OPEN, or to VOIDING under a voiding condition. PERMIT_RESP goes
before SALE_RESP and TENDER_RESP in the ready order (DESIGN CHOICE, log 46). -/
def State.withdrawPermit (s : State) (v : Verdict) : State :=
  let t := { s with sale.permit := none, sale.verdict := v, sale.idle := 0, sale.saleCmd := 22
                    permit.permitReq := codeWord v.code }.answer .permitResp
  if t.voidingPresent then
    (t.beginVoid (if t.stopped .doorOpen then .doorOpened else .stopped)).raiseSource .sale
      SaleNotice.saleVoided.word
  else
    let u := { t with sale.state := .opened, sale.inhibit := t.inhibitNow }
    ((u.answer .saleResp).answer .tenderResp).startPrice

/-! ## A minute mark at the sale unit (R19) -/

/-- A minute mark taken by the sale unit. -/
def State.saleMark (s : State) : State :=
  if s.sale.state = .opened then
    let t := { s with sale.idle := s.sale.idle + 1 }
    if t.sale.idle = s.cfg.idleLimit then
      (t.beginVoid .idleTimeout).raiseSource .sale SaleNotice.saleVoided.word
    else t.startPrice
  else s

end Sys2Proof.Machine
end

