-- ==== Sys2Proof/Machine/Collection.lean ====
section
/-! DEFINITION. The cash unit: the steps of a sale's close and of a period close, the export requests,
the compartment and its requests (chapters 7 and 8). -/

namespace Sys2Proof.Machine

/-! ## Steps of a sale's close (R133, R134) -/

/-- Write the step-done word of the intent. -/
def State.putStepDone (s : State) (n : Nat) : State := s.putCell .cash (intentBase + 1) (codeWord n)

/-- What the close step after step-done value `n` writes from the images (R133, steps 3 to 6). -/
def State.putCloseRecord (s : State) (c : Close) (n : Nat) : State :=
  match n with
  | 0 => s.putRun (s.journalAddr c.number) c.journal
  | 1 => s.putRun (s.at .cash periodBase) c.period
  | 2 => if c.kind = .commit then s.putRun (s.at .cash 0) c.box else s
  | 3 =>
    match c.permit with
    | some p => s.putRecord (s.slotAddr p.bucket p.slot) p.image
    | none => s
  | _ => s

/-- After step 6 of a close with a permit part the roll lock is released (R133). -/
def State.releaseAfter (s : State) (c : Close) (n : Nat) : State :=
  if n = 3 ∧ c.permit.isSome then s.lockRelease else s

/-- The sale record step (R134): the sale unit reports both groups ready, with the close's values
(R10, R22); SALE_RESP goes before TENDER_RESP in the ready order (DESIGN CHOICE, log 46). -/
def State.saleRecordStep (s : State) : State :=
  let t := { s with sale.recordStep := true, sale.inhibit := 0
                    sale.saleCmd := if s.sale.commits then 16 else s.sale.saleCmd }
  (t.report .saleResp).report .tenderResp

/-- CLOSE_STEP (R133): the next step of an armed sale close. -/
def State.closeStep (s : State) : State :=
  match s.cash.close with
  | some c =>
    if c.kind = .period then s
    else if c.stepDone < 4 then
      let n := c.stepDone
      (({ s with cash.close := some { c with stepDone := n + 1 } }.putCloseRecord c n).releaseAfter
        c n).putStepDone (n + 1)
    else if c.stepDone = 4 ∧ s.sale.recordStep = false then s.saleRecordStep
    else s
  | none => s

/-- A group of the sale record has been written: once both are, the step done is 5 (R134). -/
def State.closeGroupWritten (s : State) (g : Group) : State :=
  match s.cash.close with
  | some c =>
    if c.kind ≠ .period ∧ c.stepDone = 4 ∧ s.sale.recordStep = true then
      let d := { c with saleWritten := c.saleWritten || g == .saleResp
                        tenderWritten := c.tenderWritten || g == .tenderResp }
      if d.saleWritten && d.tenderWritten then
        { s with cash.close := some { d with stepDone := 5 } }.putStepDone 5
      else { s with cash.close := some d }
    else s
  | none => s

/-- Step 8's writes: the indices, the step done and the intent state NONE (R133, R134). -/
def State.putCloseEnd (s : State) (number : DWord) : State :=
  (((s.putDWord (s.at .cash 12) (sum32 (number.toNat + 1))).putCell .cash 16 0).putStepDone 6).putCell
    .cash intentBase 0

/-- The near threshold of the box (R126). -/
def CfgRegs.nearThreshold (c : CfgRegs) : Nat := (c.capacity * c.nearPercent + 99) / 100

/-- BOX_NEAR after a commit's close (R126). -/
def State.testNear (s : State) : State :=
  if s.cfg.nearThreshold ≤ s.cash.tally.coins.toNat ∧ s.cash.nearLatch = false then
    { s with cash.nearLatch := true }.raise .boxNear s.cash.tally.coins
  else s

/-- BOX_FULL after a commit's close that brought the total to the capacity from below (R126). -/
def State.testFull (s : State) (before : Word) : State :=
  if s.cfg.capacity ≤ s.cash.tally.coins.toNat ∧ before.toNat < s.cfg.capacity then
    s.raise .boxFull s.cash.tally.coins
  else s

/-- The sale unit after a close has ended (R10, R22). -/
def SaleUnit.closed (u : SaleUnit) : SaleUnit :=
  { u with
    state := if u.commits then .closed else .void
    escrow := Eight.all 0, late := Eight.all 0, lateTotal := 0, recordStep := false, permitPart := none }

/-- What takes effect on the chip when the NONE write of a sale's close completes (R134). -/
def State.closeEffects (s : State) (c : Close) : State :=
  { s with
    cash.tally := Tally.ofWords c.box
    cash.period := PeriodRecord.ofWords c.period
    cash.nextSeq := sum32 (c.number.toNat + 1)
    cash.reserved := false
    cash.close := none }

/-- CLOSE_END (R134): step 8, the box tests of a commit, the waiting updates, and the end of the sale. -/
def State.closeEnd (s : State) : State :=
  match s.cash.close with
  | some c =>
    if c.kind ≠ .period ∧ c.stepDone = 5 then
      let t := (s.putCloseEnd c.number).closeEffects c
      let u := if c.kind = .commit then t.testNear.testFull s.cash.tally.coins else t
      let v := u.drainCash
      { v with sale := v.sale.closed }.beginChangeover.takeHeld
    else s
  | none => s

/-! ## Steps of a period close (R147) -/

/-- The new period that a closed image opens (R147). -/
def newPeriod (closed : List Word) : PeriodRecord :=
  PeriodRecord.fresh (sum32 ((dwordOf closed 0).toNat + 1)) (dwordOf closed 4)

/-- What the period close step after step-done value `n` writes, its step-done word included (R147). -/
def State.putPeriodStep (s : State) (number : DWord) (closed box : List Word) (n : Nat) : State :=
  match n with
  | 0 => (s.putRun (s.ringAddr number) closed).putStepDone 1
  | 1 => (s.putRun (s.at .cash periodBase) (newPeriod closed).words).putStepDone 2
  | 2 => (s.putRun (s.at .cash 0) box).putStepDone 3
  | _ =>
    (((s.putCell .cash 17 (loWord (newPeriod closed).number)).putCell .cash 22 0).putStepDone 4).putCell
      .cash intentBase 0

/-- What takes effect on the chip when the NONE write of a period close completes (R147). -/
def State.periodEffects (s : State) (c : Close) : State :=
  { s with
    cash.period := newPeriod c.period
    cash.tally := Tally.zero
    cash.pnext := loWord (newPeriod c.period).number
    cash.nearLatch := false
    cash.closeOwed := false
    cash.close := none }

/-- PERIOD_CLOSE_STEP (R147): the next step of an armed period close. -/
def State.periodCloseStep (s : State) : State :=
  match s.cash.close with
  | some c =>
    if c.kind ≠ .period then s
    else
      let t := s.putPeriodStep c.number c.period c.box c.stepDone
      if c.stepDone < 3 then { t with cash.close := some { c with stepDone := c.stepDone + 1 } }
      else ((t.periodEffects c).removeCondition .boxFull |>.raiseCash false).drainCash
  | none => s

/-! ## Export requests (R131, R148) -/

/-- A JEXPORT request: the high word with the latched low half (R131). -/
def State.jexport (s : State) (high : Word) : State :=
  let e := mkDWord s.cash.exportLow high
  if s.cash.exportMark.toNat ≤ e.toNat ∧ e.toNat < s.cash.nextSeq.toNat then
    let t := { s with cash.exportMark := e }
    (if 1 ≤ t.freeSlots then t.removeCondition .journalFull else t).answer .jexportResp
  else s.answer .jexportResp

/-- A PEXPORT request (R148). -/
def State.pexport (s : State) (e : Word) : State :=
  if s.cash.pexport.toNat ≤ e.toNat ∧ e.toNat < s.cash.pnext.toNat then
    { s with cash.pexport := e }.answer .pexportResp
  else s.answer .pexportResp

/-! ## The compartment (R137 to R141) -/

/-- Write the three mirrors (R137). -/
def State.putMirrors (s : State) : State :=
  ((s.putCell .cash 19 (codeWord s.cash.compartment.code)).putCell .cash 20
    (flagWord s.cash.intrusion)).putCell .cash 21 (codeWord s.cash.authCount)

/-- Set state, flag and count, and mirror them when one of them changes (R137). -/
def State.compartmentTo (s : State) (c : Compartment) (flag : Bool) (count : Nat) : State :=
  let t := { s with cash.compartment := c, cash.intrusion := flag, cash.authCount := count }
  if s.cash.compartment = c ∧ s.cash.intrusion = flag ∧ s.cash.authCount = count then t
  else t.putMirrors

/-- Set the state alone. -/
def State.compartmentOnly (s : State) (c : Compartment) : State :=
  s.compartmentTo c s.cash.intrusion s.cash.authCount

/-- BOX_ABSENT is raised, with the state code before the change as detail (R137). -/
def State.raiseBoxAbsent (s : State) (before : Compartment) : State :=
  s.raise .boxAbsent (codeWord before.code)

/-- A period close falls due: the close-owed mark is set and written, and the close waits, after a sale's close
that is still to be handed over (R146). -/
def State.periodDue (s : State) : State :=
  { s with cash.closeOwed := true
           cash.waiting := s.cash.waiting ++ s.dueWork }.putCell .cash 22 1

/-- A door opening (R138). -/
def State.doorOpens (s : State) : State :=
  match s.cash.compartment with
  | .authorised => (s.compartmentTo .opened s.cash.intrusion 0).require .doorOpen
  | .sealed | .sealedEmpty =>
    ((s.compartmentTo .breached true s.cash.authCount).raise .intrusion 1).forcedEntry
  | .opened | .boxOut | .refilled | .breached => s

/-- A box removal (R139). -/
def State.boxLeaves (s : State) : State :=
  let before := s.cash.compartment
  match before with
  | .opened => s.periodDue.compartmentOnly .boxOut
  | .refilled => s.compartmentOnly .boxOut
  | .breached => (s.raise .intrusion 3).raiseBoxAbsent before
  | .sealed => (s.compartmentOnly .sealedEmpty).raiseBoxAbsent before
  | .authorised => (s.compartmentTo .sealedEmpty s.cash.intrusion 0).raiseBoxAbsent before
  | .boxOut | .sealedEmpty => s

/-- A box insertion (R140). -/
def State.boxEnters (s : State) : State :=
  let t := s.removeCondition .boxAbsent
  match s.cash.compartment with
  | .boxOut => t.compartmentOnly .refilled
  | .sealedEmpty => t.compartmentOnly .sealed
  | .breached => t.raise .intrusion 4
  | .sealed | .authorised | .opened | .refilled => t

/-- A door closing (R141). -/
def State.doorCloses (s : State) : State :=
  let before := s.cash.compartment
  match before with
  | .opened | .refilled => (s.compartmentOnly .sealed).removeCondition .doorOpen
  | .boxOut => ((s.compartmentOnly .sealedEmpty).removeCondition .doorOpen).raiseBoxAbsent before
  | .breached =>
    let t := s.raise .intrusion 2
    if s.lines.box.asserted then t.compartmentOnly .sealed
    else (t.compartmentOnly .sealedEmpty).raiseBoxAbsent before
  | .sealed | .authorised | .sealedEmpty => s

/-- A delivered change of DOOR or BOX (R138 to R141). -/
def State.compartmentChange (s : State) (l : Line) (level : Bool) : State :=
  match l, level with
  | .door, true => s.doorOpens
  | .door, false => s.doorCloses
  | .box, true => s.boxEnters
  | .box, false => s.boxLeaves
  | .key, _ => s

/-! ## COLLECT_CMD (R143, R145) -/

/-- Answer a COLLECT_CMD request. -/
def State.collectAnswer (s : State) (code : Word) : State :=
  { s with cash.collectCmd := code }.answer .collectResp

/-- The period ring has a free slot (R148). -/
def CashUnit.ringFree (c : CashUnit) : Bool := decide (c.pnext.toNat - 1 - c.pexport.toNat < 16)

/-- AUTHORISE (R143). -/
def State.takeAuthorise (s : State) : State :=
  if s.cash.compartment ≠ .sealed then s.collectAnswer 18
  else if s.lines.key.asserted = false then s.collectAnswer 17
  else if s.cash.ringFree = false ∨ s.cash.period.number = 65535 then
    (s.raise .periodRingFull (loWord s.cash.period.number)).collectAnswer 19
  else (s.compartmentTo .authorised s.cash.intrusion s.cfg.authTime).collectAnswer 16

/-- CLEAR_INTRUSION (R145). -/
def State.takeClearIntrusion (s : State) : State :=
  if s.cash.compartment ≠ .sealed ∨ s.cash.intrusion = false then s.collectAnswer 18
  else if s.lines.key.asserted = false then s.collectAnswer 17
  else ((s.compartmentTo .sealed false s.cash.authCount).removeCondition .intrusion).collectAnswer 16

/-- A COLLECT_CMD request. -/
def State.takeCollect (s : State) (v : Word) : State :=
  match v.toNat with
  | 1 => s.takeAuthorise
  | 2 => s.takeClearIntrusion
  | _ => s.collectAnswer 20

/-- A minute mark at the cash unit: the authorisation count (R144). -/
def State.authMark (s : State) : State :=
  if s.cash.compartment = .authorised then
    if s.cash.authCount ≤ 1 then (s.compartmentTo .sealed s.cash.intrusion 0).raiseCash false
    else s.compartmentTo .authorised s.cash.intrusion (s.cash.authCount - 1)
  else s

end Sys2Proof.Machine
end

