-- ==== Sys2Proof/Machine/Permit.lean ====
section
/-! DEFINITION. Permit requests, the search along the probe chain, verdicts and the commit permit step
(chapter 5). -/

namespace Sys2Proof.Machine

/-! ## Verdicts (R101, R102) -/

/-- Words 6 to 10 of a permit record: dates, allowance and use counts (R191). -/
def recFrom (ws : List Word) : Nat := (wordOf ws 6).toNat
def recTo (ws : List Word) : Nat := (wordOf ws 7).toNat
def recAllowance (ws : List Word) : Nat := (wordOf ws 8).toNat
def recUsed (ws : List Word) : Nat := (wordOf ws 9).toNat
def recUsedOn (ws : List Word) : Word := wordOf ws 10

/-- The allowance of today is used up (R101 test 6, R105 test 8). -/
def allowanceUsed (ws : List Word) (today : Word) : Bool :=
  recUsedOn ws == today && decide (recAllowance ws ≤ recUsed ws)

/-- The treatment byte for the record's category in the band in force at a minute (R50, R51). -/
def State.treatmentAt (s : State) (minute : DWord) (category : Byte) : Byte :=
  (bandAt s.tariff.cache minute.toNat).band.treatment category

/-- The verdict of a match (R101). -/
def State.matchVerdict (s : State) (q : Search) (ws : List Word) : Verdict :=
  if recStatus ws = 2 then .revoked
  else if q.today.toNat < recFrom ws then .notYet
  else if recTo ws < q.today.toNat then .expired
  else if zoneListed ws s.cfg.zone = false then .wrongZone
  else if s.treatmentAt q.minute (recCategory ws) = 255 then .notHere
  else if allowanceUsed ws q.today then .allowanceUsed
  else .valid

/-- A price run of R17 is started while the sale is OPEN only. -/
def State.repriceOpen (s : State) : State := if s.sale.state = .opened then s.startPrice else s

/-- A verdict is delivered to the sale unit and PERMIT_RESP is ready (R102). -/
def State.deliver (s : State) (v : Verdict) (permit : Option PermitInUse) : State :=
  let t := { s with permit.search := none, permit.permitReq := codeWord v.code, sale.verdict := v
                    sale.permit := permit }
  (if permit.isSome || s.sale.permit.isSome then t.repriceOpen else t).answer .permitResp

/-! ## Requests (R95 to R97) -/

/-- Answer a PERMIT_REQ request with a code, the context unchanged (R97). -/
def State.permitAnswer (s : State) (code : Word) : State :=
  { s with permit.permitReq := code }.answer .permitResp

/-- A CHECK starts its search (R96). -/
def State.startSearch (s : State) : State :=
  let q : Search :=
    { number := s.permit.kept, minute := s.time.minute, today := todayOf s.time.minute
      phase := .waiting, bucket := homeBucket s.permit.kept, examined := 0, slot := 0
      overflow := false }
  ({ s with permit.search := some q }.owe .permitResp).lockAsk .search

/-- A CHECK (R96). -/
def State.takeCheck (s : State) : State :=
  if s.sale.state ≠ .opened then s.permitAnswer (codeWord Verdict.noSale.code)
  else if s.permit.kept = 0 ∨ s.permit.kept = 0xFFFFFFFF then s.deliver .badNumber none
  else if s.stopped .rollDown then s.deliver .noRoll none
  else s.startSearch

/-- A DROP (R97). -/
def State.takeDrop (s : State) : State :=
  if s.sale.state ≠ .opened then s.permitAnswer (codeWord Verdict.noSale.code)
  else ({ s with sale.permit := none, sale.verdict := .none }.startPrice).permitAnswer 0

/-- A PERMIT_REQ request: a request in hand is abandoned first, and an OPEN sale's idle count is reset
(R20, R95). -/
def State.takePermit (s : State) (v : Word) : State :=
  let t := s.dropSearch
  let u := if t.sale.state = .opened then { t with sale.idle := 0 } else t
  match v.toNat with
  | 1 => u.takeCheck
  | 2 => u.takeDrop
  | _ => u.permitAnswer 28

/-! ## The search (R98 to R100, R103) -/

/-- An abandoned search that held the lock releases it (R93, R103). -/
def State.buryDying (s : State) : State := { s with permit.dying := false }.lockRelease

/-- The search ends with a verdict: it releases the lock and the verdict is delivered. -/
def State.endSearch (s : State) (v : Verdict) (permit : Option PermitInUse) : State :=
  s.lockRelease.deliver v permit

/-- The search as it stands when it is to seek: at its home bucket when the lock was just handed over. -/
def Search.seeking (q : Search) : Search :=
  if q.phase = .waiting then { q with phase := .seek, bucket := homeBucket q.number, examined := 1 }
  else q

/-- The seek of a bucket (R98). -/
def State.seek (s : State) (q : Search) : State :=
  let hw := s.headerWords q.bucket
  if headerVerifies q.bucket hw then
    let r := { q with phase := .scan, slot := 0, overflow := wordOf hw 3 != 0 }
    { s with permit.search := some r }
  else (s.raise .rollSeek (bucketWord q.bucket)).endSearch .damaged none

/-- The search has a bucket to seek: it holds the lock, and is not abandoned nor turned away at its lock test. -/
def State.seeks (s : State) : Bool :=
  s.permit.lock.holder == some .search && !s.permit.dying &&
    match s.permit.search with
    | some q => q.phase == .seek || (q.phase == .waiting && !s.stopped .rollDown)
    | none => false

/-- The search has a bucket to scan. -/
def State.scans (s : State) : Bool :=
  s.permit.lock.holder == some .search && !s.permit.dying &&
    match s.permit.search with
    | some q => q.phase == .scan
    | none => false

/-- SEARCH_SEEK (R98): the search holds the lock and has a bucket to verify. The test of ROLL_DOWN that follows the
handing over of the lock is made here (DESIGN CHOICE, log 48). -/
def State.searchSeek (s : State) : State :=
  if s.permit.lock.holder = some .search then
    if s.permit.dying then s.buryDying
    else
      match s.permit.search with
      | some q =>
        match q.phase with
        | .waiting => if s.stopped .rollDown then s.endSearch .noRoll none else s.seek q.seeking
        | .seek => s.seek q
        | .scan => s
      | none => s
  else s

/-- A bucket scanned to slot 7 without a match (R100). -/
def State.scanEnd (s : State) (q : Search) : State :=
  if q.overflow && decide (q.examined < s.cfg.probeLimit) then
    let r := { q with phase := .seek, bucket := q.bucket + 1, examined := q.examined + 1 }
    { s with permit.search := some r }
  else s.endSearch .notFound none

/-- The match of a search (R101). -/
def State.found (s : State) (q : Search) (k : Nat) (ws : List Word) : State :=
  match s.matchVerdict q ws with
  | .valid =>
    s.endSearch .valid
      (some { number := q.number, category := recCategory ws
              discount := s.treatmentAt q.minute (recCategory ws), bucket := q.bucket, slot := k })
  | v => s.endSearch v none

/-- The scan of the last `n` slots of the bucket (R99). -/
def State.scan (s : State) (q : Search) : Nat → State
  | 0 => s.scanEnd q
  | n + 1 =>
    let k := 7 - n
    let ws := s.slotWords q.bucket k
    if freeStatus (recStatus ws) then s.scan q n
    else if readable ws then
      if recNumber ws = q.number then s.found q k ws else s.scan q n
    else
      let t := s.raise .recordCrc (slotDetail q.bucket k)
      if recNumber ws = q.number then t.endSearch .damaged none else t.scan q n

/-- SEARCH_SCAN (R99): the rest of the bucket from its current slot. -/
def State.searchScan (s : State) : State :=
  if s.permit.lock.holder = some .search then
    if s.permit.dying then s.buryDying
    else
      match s.permit.search with
      | some q => if q.phase = .scan then s.scan q (8 - q.slot) else s
      | none => s
  else s

/-! ## The commit permit step (R105 to R107) -/

/-- The verdict of the re-check, none when every test passes (R105). -/
def State.recheck (s : State) (p : PermitInUse) (ws : List Word) (today : Word) : Option Verdict :=
  if s.stopped .rollDown then some .noRoll
  else if freeStatus (recStatus ws) then some .notFound
  else if damaged ws then some .damaged
  else if recNumber ws ≠ p.number then some .notFound
  else if recStatus ws = 2 then some .revoked
  else if today.toNat < recFrom ws then some .notYet
  else if recTo ws < today.toNat then some .expired
  else if zoneListed ws s.cfg.zone = false then some .wrongZone
  else if allowanceUsed ws today then some .allowanceUsed
  else none

/-- The new record image: one more use charged (R106), the spare byte of word 5 0 (R185). -/
def chargedImage (ws : List Word) (today : Word) : List Word :=
  let used := if recUsedOn ws = today then wordOf ws 9 + 1 else 1
  let spared := ws.set 5 (mkWord (hiByte (wordOf ws 5)) 0)
  withCheck (((spared.set 9 used).set 10 today).take 15)

/-- The commit permit step reads its slot: ROLL_DOWN, its first test, needs no read. -/
def State.rechecks (s : State) : Bool :=
  s.sale.permit.isSome && s.sale.state == .committing && s.sale.permitPart.isNone
    && s.permit.lock.holder == some .commitStep && !s.stopped .rollDown

/-- COMMIT_PERMIT_STEP (R105): the step holds the lock and has not been made yet. -/
def State.commitPermitStep (s : State) : State :=
  match s.sale.permit with
  | some p =>
    if s.sale.state = .committing ∧ s.sale.permitPart = none
        ∧ s.permit.lock.holder = some .commitStep then
      let ws := s.slotWords p.bucket p.slot
      let today := s.permit.commitDay
      match s.recheck p ws today with
      | none =>
        s.handCommit (some { bucket := p.bucket, slot := p.slot, image := chargedImage ws today })
      | some v =>
        let t := if v = .damaged then s.raise .recordCrc (slotDetail p.bucket p.slot) else s
        t.lockRelease.withdrawPermit v
    else s
  | none => s

/-! ## The scrub (R121) -/

/-- A minute mark at the scrub. -/
def State.scrubMark (s : State) : State :=
  if s.permit.lock.holder = none ∧ s.stopped .rollDown = false then s.lockAsk .scrub else s

/-- The scrub's check of the last `n` slots of a bucket. -/
def State.scrubSlots (s : State) (b : BitVec 9) : Nat → State
  | 0 => s
  | n + 1 =>
    let k := 7 - n
    (if damaged (s.slotWords b k) then s.raise .recordCrc (slotDetail b k) else s).scrubSlots b n

/-- The scrub's check of the bucket at its cursor. -/
def State.scrubBucket (s : State) (b : BitVec 9) : State :=
  if headerVerifies b (s.headerWords b) then s.scrubSlots b 8
  else s.raise .rollSeek (bucketWord b)

/-- The scrub has a bucket to check. -/
def State.scrubs (s : State) : Bool :=
  s.permit.lock.holder == some .scrub && !s.stopped .rollDown

/-- SCRUB_STEP (R121): the scrub holds the lock, and tests ROLL_DOWN here (DESIGN CHOICE, log 48). -/
def State.scrubStep (s : State) : State :=
  if s.permit.lock.holder = some .scrub then
    if s.stopped .rollDown then s.lockRelease
    else
      let t := s.scrubBucket s.permit.scrubCursor
      { t with permit.scrubCursor := s.permit.scrubCursor + 1 }.lockRelease
  else s

end Sys2Proof.Machine
end

