-- ==== Sys2Proof/Machine/Roll.lean ====
section
/-! DEFINITION. The amendment queue and engine, its operations, the restart mode, and the roll header at
start-up (chapter 6). -/

namespace Sys2Proof.Machine

/-! ## The queue (R108, R109) -/

/-- An AMEND_TAIL request (R109). -/
def State.takeTail (s : State) (v : Word) : State :=
  let now := (s.permit.tail - s.permit.head).toNat
  let tail : BitVec 5 := v.setWidth 5
  if v.toNat < 32 ∧ now < (tail - s.permit.head).toNat then
    { s with permit.tail := tail, permit.amendStatus := 16 }.answer .amendResp
  else { s with permit.amendStatus := 17 }.answer .amendResp

/-- The group writer has written AMEND_RESP: the entries up to the tail pass to the part (R32, R109). -/
def State.handEntries (s : State) : State :=
  { s with permit.handed := s.permit.tail }.amendKick

/-! ## Entries (R191) -/

/-- A word of an entry of the queue. -/
def State.entryWord (s : State) (k : BitVec 5) (i : Nat) : Word := s.word (s.entryAddr k + 2 * i)

/-- The firmware sequence of an entry. -/
def State.entrySeq (s : State) (k : BitVec 5) : DWord := s.dword (s.entryAddr k + 2)

/-- The permit record image of an entry. -/
def State.entryImage (s : State) (k : BitVec 5) : List Word := s.words (s.entryAddr k + 8) 16

/-- Write the result word of an entry. -/
def State.putResult (s : State) (k : BitVec 5) (result : Word) : State :=
  s.put (s.entryAddr k + 6) result

/-- Results (R193). -/
def resApplied : Word := 16
def resDuplicate : Word := 17
def resNotFound : Word := 18
def resRollFull : Word := 19
def resBadRecord : Word := 20
def resBadOp : Word := 21
def resDamaged : Word := 22
def resInProgress : Word := 23

/-- A final result: 16 to 22 (R118). -/
def finalResult (w : Word) : Bool := decide (16 ≤ w.toNat) && decide (w.toNat ≤ 22)

/-! ## Image checks (R111) -/

/-- The number of an image is outside 1 to FFFFFFFEh. -/
def badNumber (ws : List Word) : Bool := recNumber ws == 0 || recNumber ws == 0xFFFFFFFF

/-- The zone list of an image fails. -/
def badZones (ws : List Word) : Bool :=
  let n := recZoneCount ws
  decide (n < 1) || decide (4 < n) || ((recZones ws).take n).contains 0
    || ((recZones ws).drop n).any (· != 0)

/-- The image of an ADD or REPLACE fails. -/
def badImage (ws : List Word) : Bool :=
  badNumber ws || (recCategory ws == 0 || decide (3 < (recCategory ws).toNat)) || badZones ws
    || decide (recTo ws < recFrom ws)
    || (decide (recAllowance ws < 1) || decide (15 < recAllowance ws))
    || loByte (wordOf ws 5) != 0

/-- The image and the record agree in number, category, zone list, dates, allowance and holder (R119). -/
def sameFields (image record : List Word) : Bool :=
  recNumber image == recNumber record && recCategory image == recCategory record
    && recZoneCount image == recZoneCount record
    && (recZones image).take (recZoneCount image) == (recZones record).take (recZoneCount record)
    && (image.drop 6).take 3 == (record.drop 6).take 3
    && (image.drop 11).take 4 == (record.drop 11).take 4

/-- The record a restarted ADD finds already in place: readable, LIVE and equal (R119). -/
def alreadyPlaced (image record : List Word) : Bool :=
  readable record && recStatus record == 1 && sameFields image record

/-- The record an ADD or REPLACE writes, with the use counts given (R113, R114). -/
def newRecord (image : List Word) (used usedOn : Word) : List Word :=
  withCheck
    (image.take 2 ++ [mkWord 1 (recCategory image)] ++ (image.drop 3).take 6 ++ [used, usedOn]
      ++ (image.drop 11).take 4)

/-! ## Bucket headers (R89, R112) -/

/-- The slots of a bucket whose status is LIVE or REVOKED, as memory holds them. -/
def State.occupied (s : State) (b : BitVec 9) : Nat :=
  ((List.range 8).filter fun k =>
    recStatus (s.slotWords b k) == 1 || recStatus (s.slotWords b k) == 2).length

/-- The words of a bucket header. -/
def bucketHeader (b : BitVec 9) (occupied : Nat) (flag : Bool) : List Word :=
  withCheck [bucketWord b, ~~~(bucketWord b), codeWord occupied, flagWord flag, 0, 0, 0]

/-- The record count after a bucket's occupied count changes (R112, log 10). -/
def countAfter (count : Word) (before after : Nat) : Word :=
  if before ≤ count.toNat + after then sum16 (count.toNat + after - before)
  else Config.countBelowZero count.toNat (before - after)

/-- The overflow flag of a bucket as memory holds it. -/
def State.overflowOf (s : State) (b : BitVec 9) : Bool := s.word (s.bucketAddr b + 6) != 0

/-- Rewrite a bucket header from its slots, with the overflow flag given (R112). -/
def State.putHeader (s : State) (b : BitVec 9) (flag : Bool) : State :=
  let before := (s.word (s.bucketAddr b + 4)).toNat
  let after := s.occupied b
  { s with permit.recordCount := countAfter s.permit.recordCount before after }.putRun
    (s.bucketAddr b) (bucketHeader b after flag)

/-- The roll header's words (R88). -/
def rollHeader (limit count : Word) (seq : DWord) : List Word :=
  withCheck ([0x4A52, 512, limit, count] ++ dwords seq ++ List.replicate 9 0)

/-- Write the roll header from the on-chip copy with a format probe limit. -/
def State.putRollHeader (s : State) (limit : Word) : State :=
  s.putRun (s.at .roll 0) (rollHeader limit s.permit.recordCount s.permit.lastSeq)

/-! ## The walk (R112, R119) -/

/-- What a walk finds: a bucket that fails, a target, or none; with the buckets walked, in chain order. -/
inductive WalkEnd where
  | failed (bucket : BitVec 9)
  | target (bucket : BitVec 9) (slot : Nat)
  | absent
deriving DecidableEq, Repr

/-- A walk: the state it leaves (restart mode may rewrite a header), the buckets walked, and its end. -/
structure Walk where
  state : State
  seen : List (BitVec 9)
  finish : WalkEnd

/-- The header of a bucket passes a walk; in restart mode the check word alone may be bad (R119). -/
def walkPasses (restart : Bool) (b : BitVec 9) (ws : List Word) : Bool :=
  headerVerifies b ws
    || (restart && wordOf ws 0 == bucketWord b && wordOf ws 1 == ~~~(bucketWord b))

/-- In restart mode a header whose check word alone is bad is rewritten, its flag kept (R119). -/
def State.mendHeader (s : State) (b : BitVec 9) : State :=
  if headerVerifies b (s.headerWords b) then s else s.putHeader b (s.overflowOf b)

/-- The first slot of a bucket that is not free and holds the number. -/
def State.slotWith (s : State) (b : BitVec 9) (number : DWord) : Option Nat :=
  (List.range 8).find? fun k =>
    !freeStatus (recStatus (s.slotWords b k)) && recNumber (s.slotWords b k) == number

/-- The walk over at most `fuel` buckets from `b` on. -/
def State.walk (s : State) (restart : Bool) (number : DWord) : Nat → BitVec 9 → List (BitVec 9) → Walk
  | 0, _, seen => { state := s, seen := seen, finish := .absent }
  | fuel + 1, b, seen =>
    if walkPasses restart b (s.headerWords b) then
      let t := s.mendHeader b
      match t.slotWith b number with
      | some k => { state := t, seen := seen ++ [b], finish := .target b k }
      | none =>
        if t.overflowOf b then t.walk restart number fuel (b + 1) (seen ++ [b])
        else { state := t, seen := seen ++ [b], finish := .absent }
    else { state := s, seen := seen, finish := .failed b }

/-- The walk of an entry's number along its chain (R91, R112). -/
def State.walkFor (s : State) (restart : Bool) (number : DWord) : Walk :=
  s.walk restart number s.cfg.probeLimit (homeBucket number) []

/-- What an operation comes to: the state, the result, and the buckets walked. -/
structure OpEnd where
  state : State
  result : Word
  seen : List (BitVec 9)

/-- A bucket header that fails ends the entry with DAMAGED (R112). -/
def Walk.damaged (w : Walk) (b : BitVec 9) : OpEnd :=
  { state := w.state.raise .rollSeek (bucketWord b), result := resDamaged, seen := w.seen }

/-- An end that writes nothing more. -/
def Walk.ends (w : Walk) (result : Word) : OpEnd :=
  { state := w.state, result := result, seen := w.seen }

/-! ## ADD (R113) -/

/-- The first free slot of a bucket. -/
def State.freeSlot (s : State) (b : BitVec 9) : Option Nat :=
  (List.range 8).find? fun k => freeStatus (recStatus (s.slotWords b k))

/-- The first free slot of the buckets walked, in chain order. -/
def State.freePlace (s : State) (bs : List (BitVec 9)) : Option (BitVec 9 × Nat) :=
  bs.findSome? fun b => (s.freeSlot b).map fun k => (b, k)

/-- Past the walk: further buckets of the chain, each verified, until one has a free slot (R113). -/
def Walk.extend (w : Walk) (restart : Bool) : Nat → BitVec 9 → Walk
  | 0, _ => w
  | fuel + 1, b =>
    if walkPasses restart b (w.state.headerWords b) then
      let t := w.state.mendHeader b
      let v : Walk := { state := t, seen := w.seen ++ [b], finish := .absent }
      if (t.freeSlot b).isSome then v else v.extend restart fuel (b + 1)
    else { w with finish := .failed b }

/-- Set the overflow flag of the buckets before the place's bucket (R113 step 1), in chain order (DESIGN CHOICE,
log 57). -/
def State.flagBefore (s : State) (place : BitVec 9) : List (BitVec 9) → State
  | [] => s
  | b :: rest =>
    if b = place then s
    else (if s.overflowOf b then s else s.putHeader b true).flagBefore place rest

/-- Place an ADD's record (R113). -/
def State.placeRecord (s : State) (seen : List (BitVec 9)) (b : BitVec 9) (k : Nat)
    (image : List Word) : State :=
  let t := (s.flagBefore b seen).putRecord (s.slotAddr b k) (newRecord image 0 0)
  t.putHeader b (t.overflowOf b)

/-- An ADD whose walk found no target (R113). -/
def Walk.add (w : Walk) (restart : Bool) (image : List Word) : OpEnd :=
  let home := homeBucket (recNumber image)
  let v :=
    if (w.state.freePlace w.seen).isSome then w
    else w.extend restart (w.state.cfg.probeLimit - w.seen.length)
      (home + BitVec.ofNat 9 w.seen.length)
  match v.finish with
  | .failed b => v.damaged b
  | .target _ _ | .absent =>
    match v.state.freePlace v.seen with
    | some (b, k) =>
      { state := v.state.placeRecord v.seen b k image, result := resApplied, seen := v.seen }
    | none =>
      { state := v.state.raise .rollFull (bucketWord home), result := resRollFull, seen := v.seen }

/-- ADD (R113, R119). -/
def State.opAdd (s : State) (restart : Bool) (image : List Word) : OpEnd :=
  let w := s.walkFor restart (recNumber image)
  match w.finish with
  | .failed b => w.damaged b
  | .target b k =>
    if restart && alreadyPlaced image (w.state.slotWords b k) then w.ends resApplied
    else w.ends resDuplicate
  | .absent => w.add restart image

/-! ## REPLACE, REVOKE, DELETE (R114 to R116, R119) -/

/-- The header is rewritten if the occupied count changes: the old status was neither LIVE nor REVOKED. -/
def State.replaceRecord (s : State) (b : BitVec 9) (k : Nat) (image old : List Word) : State :=
  let used := BitVec.ofNat 16 (min (recUsed old) (recAllowance image))
  let t := s.putRecord (s.slotAddr b k) (newRecord image used (recUsedOn old))
  if recStatus old = 1 ∨ recStatus old = 2 then t else t.putHeader b (t.overflowOf b)

/-- REPLACE (R114, R119); in restart mode an equal target is not written, whatever its status (log 35). -/
def State.opReplace (s : State) (restart : Bool) (image : List Word) : OpEnd :=
  let w := s.walkFor restart (recNumber image)
  match w.finish with
  | .failed b => w.damaged b
  | .absent => w.ends resNotFound
  | .target b k =>
    let old := w.state.slotWords b k
    if restart && sameFields image old then w.ends resApplied
    else { state := w.state.replaceRecord b k image old, result := resApplied, seen := w.seen }

/-- A record's words before the check word with status REVOKED. -/
def revokedBody (ws : List Word) : List Word := (ws.set 2 (mkWord 2 (recCategory ws))).take 15

/-- REVOKE (R115). -/
def State.opRevoke (s : State) (restart : Bool) (image : List Word) : OpEnd :=
  let w := s.walkFor restart (recNumber image)
  match w.finish with
  | .failed b => w.damaged b
  | .absent => w.ends resNotFound
  | .target b k =>
    let t := w.state
    let old := t.slotWords b k
    let a := t.slotAddr b k
    let status := mkWord 2 (recCategory old)
    if damaged old then
      if restart && wordOf old 15 == crc (revokedBody old) then
        { state := t.put (a + 4) status, result := resApplied, seen := w.seen }
      else
        { state := t.raise .recordCrc (slotDetail b k), result := resDamaged, seen := w.seen }
    else
      { state := (t.put (a + 30) (crc (revokedBody old))).put (a + 4) status
        result := resApplied, seen := w.seen }

/-- DELETE (R116). -/
def State.opDelete (s : State) (restart : Bool) (image : List Word) : OpEnd :=
  let w := s.walkFor restart (recNumber image)
  match w.finish with
  | .failed b => w.damaged b
  | .absent => w.ends (if restart then resApplied else resNotFound)
  | .target b k =>
    let t := w.state.put (w.state.slotAddr b k + 4) (mkWord 3 0)
    { state := t.putHeader b (t.overflowOf b), result := resApplied, seen := w.seen }

/-! ## ROLL_CLEAR (R117) -/

/-- Format one bucket: its header, then the status word of each slot. -/
def State.formatBucket (s : State) (b : BitVec 9) : State :=
  (List.range 8).foldl (fun t k => t.put (t.slotAddr b k + 4) 0)
    (s.putRun (s.bucketAddr b) (bucketHeader b 0 false))

/-- Format the first `n` buckets. -/
def State.formatBuckets (s : State) : Nat → State
  | 0 => s
  | n + 1 => (s.formatBuckets n).formatBucket (BitVec.ofNat 9 n)

/-- ROLL_CLEAR's work (R117). -/
def State.clearRoll (s : State) (seq : DWord) : State :=
  let t := ((s.require .rollDown).putCell .roll 0 0).formatBuckets 512
  ({ t with permit.recordCount := 0, permit.headerGood := true
            permit.lastSeq := seq }.putRollHeader (codeWord t.cfg.probeLimit)).removeCondition .rollDown

/-! ## An entry (R110, R111) -/

/-- Recount in restart mode: the buckets walked, then the record count over all 512 (R119). The further buckets that an
ADD looks at past its walk (R113) count as walked (DESIGN CHOICE, log 51). The buckets are rewritten in chain order
(DESIGN CHOICE, log 57). -/
def State.recountWalk (s : State) (seen : List (BitVec 9)) : State :=
  seen.foldl (fun t b =>
    if (t.word (t.bucketAddr b + 4)).toNat = t.occupied b then t else t.putHeader b (t.overflowOf b)) s

/-- The sum of the occupied counts of the 512 bucket headers (R118, R119; log 10). -/
def State.countAll (s : State) : Word :=
  sum16 (((List.range 512).map fun n =>
    (s.word (s.bucketAddr (BitVec.ofNat 9 n) + 4)).toNat).sum)

/-- After an operation of restart mode. -/
def State.recount (s : State) (restart : Bool) (seen : List (BitVec 9)) : State :=
  if restart then
    let t := s.recountWalk seen
    { t with permit.recordCount := t.countAll }
  else s

/-- Step 3 of R110: the tests of R111 and the operation. -/
def State.applyOp (s : State) (restart : Bool) (op : Nat) (seq : DWord) (image : List Word) :
    State × Word :=
  if op < 1 ∨ 5 < op then (s, resBadOp)
  else if s.permit.headerGood = false ∧ op ≠ 5 then (s, resDamaged)
  else if (op = 1 ∨ op = 2) ∧ badImage image = true then (s, resBadRecord)
  else if (op = 3 ∨ op = 4) ∧ badNumber image = true then (s, resBadRecord)
  else if op = 5 then (s.clearRoll seq, resApplied)
  else
    let e :=
      match op with
      | 1 => s.opAdd restart image
      | 2 => s.opReplace restart image
      | 3 => s.opRevoke restart image
      | _ => s.opDelete restart image
    (e.state.recount restart e.seen, e.result)

/-- Step 4: the final result, with REFUSED when it is not APPLIED (R120). -/
def State.giveResult (s : State) (k : BitVec 5) (result : Word) : State :=
  let t := s.putResult k result
  if result = resApplied then t else t.raiseSource .roll (mkWord (k.setWidth 8) 2)

/-- Step 5: the roll header, left out while the header state is BAD (a ROLL_CLEAR has made it GOOD). -/
def State.noteSeq (s : State) (seq : DWord) : State :=
  if s.permit.headerGood then
    { s with permit.lastSeq := seq }.putRollHeader (s.word (s.at .roll 2))
  else s

/-- Write AMEND_HEAD and take the head as given. -/
def State.headTo (s : State) (k : BitVec 5) : State :=
  { s with permit.head := k }.putCell .roll 69648 (k.setWidth 16)

/-- Step 6: the head advances, with DRAINED when the queue is then empty (R120). -/
def State.advanceHead (s : State) (k : BitVec 5) : State :=
  let t := s.headTo (k + 1)
  if t.permit.head = t.permit.tail then t.raiseSource .roll 1 else t

/-- Steps 1 to 6 of R110 for the entry at the head. -/
def State.applyEntry (s : State) (restart : Bool) : State :=
  let k := s.permit.head
  let op := (s.entryWord k 0).toNat
  let seq := s.entrySeq k
  let r := (s.putResult k resInProgress).applyOp restart op seq (s.entryImage k)
  ((r.1.giveResult k r.2).noteSeq seq).advanceHead k

/-- Step 7: the lock is released and the engine goes to IDLE; it asks again at once (R110). -/
def State.amendEnd (s : State) : State := { s with permit.amend := .idle }.lockRelease.amendKick

/-- An amendment row: the engine is APPLYING an entry whose operation word the row names (R110). -/
def State.amendRow (s : State) (names : Nat → Bool) : State :=
  if s.permit.amend = .applying ∧ s.permit.lock.holder = some .amendment
      ∧ names (s.entryWord s.permit.head 0).toNat = true then
    (s.applyEntry false).amendEnd
  else s

/-! ## Start-up (R118, R119) -/

/-- A header write was cut short: head and tail are in range and differ, and the entry at the head holds
a final result (R118). -/
def State.headerCutShort (s : State) : Bool :=
  let h := s.cellWord .roll 69648
  let t := s.cellWord .roll 69649
  decide (h.toNat < 32) && decide (t.toNat < 32) && h != t
    && finalResult (s.entryWord (h.setWidth 5) 3)

/-- The roll header check of start-up step 3 (R118). -/
def State.checkRollHeader (s : State) : State :=
  let ws := s.words (s.at .roll 0) 16
  let shape := wordOf ws 0 == 0x4A52 && wordOf ws 1 == 512
  if shape && checkGood ws then
    { s with permit.recordCount := wordOf ws 3, permit.lastSeq := dwordOf ws 4
             permit.headerGood := true }
  else if shape && s.headerCutShort then
    { s with permit.recordCount := s.countAll
             permit.lastSeq := s.entrySeq ((s.cellWord .roll 69648).setWidth 5)
             permit.headerGood := true }.putRollHeader (wordOf ws 2)
  else ({ s with permit.headerGood := false }.raise .rollSeek 0xFFFF).require .rollDown

/-- Head and tail are loaded; a cell out of range is rewritten (R119), AMEND_HEAD before AMEND_TAIL (DESIGN CHOICE,
log 57). -/
def State.loadQueue (s : State) : State :=
  let h := s.cellWord .roll 69648
  let t := s.cellWord .roll 69649
  let head : BitVec 5 := if h.toNat < 32 then h.setWidth 5 else 0
  let tail : BitVec 5 := if t.toNat < 32 then t.setWidth 5 else head
  let u := { s with permit.head := head, permit.tail := tail, permit.handed := tail }
  let v := if h.toNat < 32 then u else u.putCell .roll 69648 0
  if t.toNat < 32 then v else v.putCell .roll 69649 (tail.setWidth 16)

/-- The entry at the head was finished before the reset (R119). -/
def State.headFinished (s : State) : Bool :=
  let k := s.permit.head
  finalResult (s.entryWord k 3) && s.entrySeq k == s.permit.lastSeq && s.permit.headerGood

/-- Start-up step 9: the entry at the head is settled (R119). -/
def State.resumeQueue (s : State) : State :=
  let t := s.loadQueue
  if t.permit.head = t.permit.tail then t
  else if t.headFinished then t.headTo (t.permit.head + 1)
  else t.applyEntry true

end Sys2Proof.Machine
end

