-- ==== Sys2Proof/Machine/Book.lean ====
section
/-! DEFINITION. Validation of a tariff book and the copy that fills the cache (R70 to R73). -/

namespace Sys2Proof.Machine

/-- What a validation pass finds: the reason of the first failure (R72), or the machine zone's section. -/
inductive BookPass where
  | fails (reason : Nat)
  | passes (copy : BookCache)
deriving DecidableEq, Repr

/-- The reason of the first failing check of a list in order. -/
def firstFault : List (Nat × Bool) → Option Nat
  | [] => none
  | (reason, bad) :: rest => if bad then some reason else firstFault rest

/-- A number outside a range. -/
def outside (n lo hi : Nat) : Bool := decide (n < lo) || decide (hi < n)

/-- A word of a slot. -/
def State.bookWord (s : State) (slot : BookSlot) (k : Nat) : Word := s.word (s.bookAddr slot + 2 * k)

/-- The state a slot reads as (R67). -/
def State.slotState (s : State) (slot : BookSlot) : SlotState := SlotState.ofWord (s.bookWord slot 0)

/-- The effective minute of the book in a slot (R70). -/
def State.effectiveMinute (s : State) (slot : BookSlot) : DWord := s.dword (s.bookAddr slot + 4)

/-! ## The section checks, in word order (R72) -/

/-- A treatment byte is 101 to 254. -/
def badTreatment (b : Byte) : Bool := decide (100 < b.toNat) && decide (b.toNat < 255)

/-- The checks of one band; `before` is the start of the band before it in its day type. -/
def bandFault (r : Nat → Word) (p : Nat) (before : Option Nat) : Option Nat :=
  let start := (r p).toNat
  let kind := (hiByte (r (p + 1))).toNat
  let rounding := (loByte (r (p + 1))).toNat
  let charged := kind == 1
  firstFault
    [(11, match before with
          | none => start != 0
          | some b => decide (1439 < start) || decide (start ≤ b)),
     (12, outside kind 1 3 || (decide (3 < rounding) && rounding != 7)),
     (13, charged && (r (p + 2)).toNat == 0),
     (13, charged && outside (r (p + 3)).toNat 1 1440),
     (14, badTreatment (hiByte (r (p + 4))) || badTreatment (loByte (r (p + 4)))),
     (14, badTreatment (hiByte (r (p + 5)))),
     (15, loByte (r (p + 5)) != 0)]

/-- The checks of the bands of a day type. -/
def bandsFault (r : Nat → Word) : Nat → Nat → Option Nat → Option Nat
  | 0, _, _ => none
  | n + 1, p, before =>
    match bandFault r p before with
    | some reason => some reason
    | none => bandsFault r n (p + 6) (some (r p).toNat)

/-- The checks of the day types. -/
def dayTypesFault (r : Nat → Word) : Nat → Nat → Option Nat
  | 0, _ => none
  | n + 1, p =>
    let bands := (r p).toNat
    if outside bands 1 12 then some 10
    else
      match bandsFault r bands (p + 1) none with
      | some reason => some reason
      | none => dayTypesFault r n (p + 1 + 6 * bands)

/-- The checks of a section whose first word is word `o`. -/
def sectionFault (r : Nat → Word) (o : Nat) : Option Nat :=
  let types := (r (o + 3)).toNat
  let count := (r (o + 11)).toNat
  let head := firstFault
    [(7, decide (3 < (r o).toNat)),
     (6, outside (r (o + 1)).toNat 1 1440),
     (8, outside types 1 4 || (List.range 7).any fun i => decide (types ≤ (r (o + 4 + i)).toNat)),
     (9, decide (16 < count)),
     (8, (List.range count).any fun i => decide (types ≤ (r (o + 13 + 2 * i)).toNat))]
  match head with
  | some reason => some reason
  | none => dayTypesFault r types (o + 12 + 2 * count)

/-! ## The directory (R70, R72) -/

/-- The zone ids of the used directory entries. -/
def directoryIds (r : Nat → Word) : List Byte :=
  (List.range (r 5).toNat).map fun j => hiByte (r (6 + j))

/-- The word offset of a zone's section, by the directory entry that holds it. -/
def zoneOffset (r : Nat → Word) (zone : Byte) : Option Nat :=
  ((List.range (r 5).toNat).find? fun j => hiByte (r (6 + j)) == zone).map fun j =>
    (loByte (r (6 + j))).toNat * 4

/-- The end of the day types from word `p` on, by the band counts as read, or none once it lies beyond
`limit` (log 20). -/
def dayTypesEnd (r : Nat → Word) (limit : Nat) : Nat → Nat → Option Nat
  | 0, p => if p ≤ limit then some p else none
  | n + 1, p => if p < limit then dayTypesEnd r limit n (p + 1 + 6 * (r p).toNat) else none

/-- The section at word `o` ends before the word at `limit`, the check word. -/
def sectionFits (r : Nat → Word) (limit o : Nat) : Bool :=
  decide (o + 12 ≤ limit)
    && (dayTypesEnd r limit (r (o + 3)).toNat (o + 12 + 2 * (r (o + 11)).toNat)).isSome

/-- The DIRECTORY check (R72, reason 4). -/
def directoryBad (r : Nat → Word) (zone : Byte) : Bool :=
  outside (r 5).toNat 1 8
    || (directoryIds r).contains 0
    || !decide (directoryIds r).Nodup
    || (List.range (r 5).toNat).any (fun j => decide ((loByte (r (6 + j))).toNat * 4 < 16))
    || (match zoneOffset r zone with
        | some o => !sectionFits r ((r 4).toNat - 1) o
        | none => false)

/-! ## The copy (R71, R73) -/

/-- A band kind of a validated book. -/
def bandKindOf (b : Byte) : BandKind := if b = 1 then .charged else if b = 2 then .free else .noParking

/-- A rounding mode of a validated book (R58). -/
def roundingOf (n : Nat) : Rounding :=
  match n with
  | 0 => .down
  | 1 => .up
  | 2 => .nearestTiesUp
  | 3 => .nearestTiesDown
  | _ => .fromBook

/-- The band at word `p`. -/
def readBand (r : Nat → Word) (p : Nat) : Band :=
  { start := (r p).toNat, kind := bandKindOf (hiByte (r (p + 1)))
    rounding := roundingOf (loByte (r (p + 1))).toNat
    rate := (r (p + 2)).toNat, unit := (r (p + 3)).toNat
    resident := hiByte (r (p + 4)), visitor := loByte (r (p + 4)), trade := hiByte (r (p + 5)) }

/-- The day types from word `p` on. -/
def readDayTypes (r : Nat → Word) : Nat → Nat → List (List Band)
  | 0, _ => []
  | n + 1, p =>
    let bands := (r p).toNat
    ((List.range bands).map fun i => readBand r (p + 1 + 6 * i))
      :: readDayTypes r n (p + 1 + 6 * bands)

/-- The zone section at word `o` (R71). -/
def readSection (r : Nat → Word) (o : Nat) : ZoneSection :=
  let count := (r (o + 11)).toNat
  { defaultRounding := roundingOf (r o).toNat
    maxStay := (r (o + 1)).toNat
    minCharge := (r (o + 2)).toNat
    weekdays := (List.range 7).map fun i => (r (o + 4 + i)).toNat
    exceptions := (List.range count).map fun i =>
      ((r (o + 12 + 2 * i)).toNat, (r (o + 13 + 2 * i)).toNat)
    dayTypes := readDayTypes r (r (o + 3)).toNat (o + 12 + 2 * count) }

/-! ## A pass (R72) -/

/-- The CRC of a book of `n` words, word 0 fed as FFFFh (R70, R184). -/
def State.bookCrc (s : State) (slot : BookSlot) (n : Nat) : Word :=
  crc (0xFFFF :: s.words (s.bookAddr slot + 2) (n - 2))

/-- A validation pass over the book in a slot; `pending` asks for the SAME_ID check too. -/
def State.validate (s : State) (slot : BookSlot) (pending : Bool) : BookPass :=
  let r := s.bookWord slot
  let length := (r 4).toNat
  let opening := firstFault
    [(1, outside length 64 4096),
     (2, r (length - 1) != s.bookCrc slot length),
     (3, r 1 == 0 || r 1 == 0xFFFF || s.effectiveMinute slot == 0xFFFFFFFF),
     (4, directoryBad r s.cfg.zone)]
  match opening, zoneOffset r s.cfg.zone with
  | some reason, _ => .fails reason
  | none, none => .fails 5
  | none, some o =>
    match sectionFault r o, s.tariff.inForce with
    | some reason, _ => .fails reason
    | none, some f =>
      if pending && r 1 == s.bookWord f 1 then .fails 16
      else .passes { id := r 1, effective := s.effectiveMinute slot, zone := readSection r o }
    | none, none => .passes { id := r 1, effective := s.effectiveMinute slot, zone := readSection r o }

end Sys2Proof.Machine
end

