-- ==== Sys2Proof/Machine/Tariff.lean ====
section
/-! DEFINITION. The book programmer, the install session, the changeover and the daily check
(R67, R68, R74 to R86). -/

namespace Sys2Proof.Machine

/-! ## The programmer (R74) -/

/-- The flash is busy (R41): the programmer is ERASING or PROGRAMMING. -/
def State.flashBusy (s : State) : Bool := s.tariff.prog.job.isSome

/-- The programmer is IDLE, with no job waiting for it. -/
def Programmer.idle (p : Programmer) : Bool := p.job.isNone && p.jobs.isEmpty

/-- The programmer takes a job: it makes the command writes, or waits for FBUSY first (R74). -/
def State.beginJob (s : State) (j : FlashJob) : State :=
  let t := { s with tariff.prog := { s.tariff.prog with
               job := some j, waitsFbusy := s.flash.fbusy, timer := some s.cfg.flashWaitMs } }
  if s.flash.fbusy then t else { t with flash := { fbusy := true, op := some j.op } }

/-- Ask the programmer for an operation; jobs are taken first in, first out (log 23). -/
def State.startJob (s : State) (j : FlashJob) : State :=
  if s.tariff.prog.idle then s.beginJob j
  else { s with tariff.prog.jobs := s.tariff.prog.jobs ++ [j] }

/-- Mark a slot (R68). -/
def State.markSlot (s : State) (slot : BookSlot) (target : SlotState) (use : FlashUse) : State :=
  s.startJob { op := .program (s.bookAddr slot) target.word, use := use }

/-- The read-back of a marking gives the target value (R68). -/
def State.markDone (s : State) (slot : BookSlot) (target : SlotState) : Bool :=
  s.bookWord slot 0 == target.word

/-- The slot's word reads as RETIRED or REJECTED. -/
def State.slotGone (s : State) (slot : BookSlot) : Bool :=
  s.slotState slot == .retired || s.slotState slot == .rejected

/-! ## BOOK_CMD answers and the session (R75 to R81) -/

/-- Answer the request in hand from BOOK_CMD. -/
def State.bookAnswer (s : State) (code : Word) : State :=
  { s with tariff.bookCmd := code, tariff.hand := none }.answer .bookResp

/-- A request stays in hand: BOOK_RESP is owed. -/
def State.bookTakes (s : State) (r : BookRequest) : State :=
  { s with tariff.hand := some r }.owe .bookResp

/-- The session goes to CLOSED. -/
def State.closeSession (s : State) : State :=
  { s with tariff.session := { s.tariff.session with state := .closed, keyLost := false, waits := [] } }

/-- BOOK_REJECTED with detail KEY_WITHDRAWN (R77, R79). -/
def State.keyRejected (s : State) (b : Bool) : State := if b then s.raise .bookRejected 17 else s

/-- The session slot. -/
def State.sessionSlot (s : State) : BookSlot := s.tariff.session.slot

/-- The slot INSTALL_BEGIN chooses (R76). -/
def TariffUnit.choose (t : TariffUnit) : BookSlot :=
  match t.inForce, t.pendingSlot with
  | some f, _ => f.other
  | none, some p => p
  | none, none => .a

/-- INSTALL_BEGIN (R76). -/
def State.takeInstallBegin (s : State) : State :=
  if s.lines.key.asserted = false then s.bookAnswer 17
  else if s.tariff.session.state ≠ .closed ∨ s.tariff.due ∨ s.tariff.change.isSome then
    s.bookAnswer 18
  else
    let slot := s.tariff.choose
    let t := { s with
      tariff.pendingSlot := if s.tariff.pendingSlot = some slot then none else s.tariff.pendingSlot
      tariff.stale := if s.tariff.stale = some slot then none else s.tariff.stale
      tariff.session := { state := .erasing, slot := slot, keyLost := false, waits := [] } }
    (t.bookTakes .installBegin).startJob { op := .erase (s.bookAddr slot), use := .beginErase }

/-- INSTALL_END begins: the session goes to ENDING and the slot is marked LOADED (R80). -/
def State.beginEnding (s : State) : State :=
  { s with tariff.session.state := .ending }.markSlot s.sessionSlot .loaded .endLoaded

/-- INSTALL_ABORT begins: the slot is marked REJECTED (R81). -/
def State.beginAbort (s : State) : State := s.markSlot s.sessionSlot .rejected .abortRequest

/-- Something waits for the session's program to end (R79). -/
def State.sessionWait (s : State) (w : SessionWait) : State :=
  { s with tariff.session.waits := s.tariff.session.waits ++ [w] }

/-- INSTALL_END (R80). -/
def State.takeInstallEnd (s : State) : State :=
  if s.tariff.session.state ≠ .opened then s.bookAnswer 19
  else
    let t := s.bookTakes .installEnd
    if s.flashBusy then t.sessionWait (.request .installEnd) else t.beginEnding

/-- INSTALL_ABORT (R81). -/
def State.takeInstallAbort (s : State) : State :=
  if s.tariff.session.state ≠ .opened then s.bookAnswer 19
  else
    let t := s.bookTakes .installAbort
    if s.flashBusy then t.sessionWait (.request .installAbort) else t.beginAbort

/-- CANCEL_PENDING (R81). -/
def State.takeCancelPending (s : State) : State :=
  if s.tariff.due ∨ s.tariff.change.isSome then s.bookAnswer 18
  else
    match s.tariff.pendingSlot with
    | none => s.bookAnswer 19
    | some p => (s.bookTakes .cancelPending).markSlot p .retired .cancelMark

/-- A BOOK_CMD request (R75). -/
def State.takeBook (s : State) (v : Word) : State :=
  match v.toNat with
  | 1 => s.takeInstallBegin
  | 2 => s.takeInstallEnd
  | 3 => s.takeInstallAbort
  | 4 => s.takeCancelPending
  | _ => s.bookAnswer 22

/-- A delivered withdrawal of KEY at the tariff unit (R77, R79). While ERASING it waits for the session's own erase
or marking, also when that waits behind another job (DESIGN CHOICE, log 47). What one does that is met while a REJECTED
marking is in flight is at `State.jobEnded` (logs 22, 55 and 56). -/
def State.keyWithdrawn (s : State) : State :=
  match s.tariff.session.state with
  | .opened =>
    if s.flashBusy then s.sessionWait .keyWithdrawn
    else s.markSlot s.sessionSlot .rejected (.abortMark true)
  | .erasing => { s with tariff.session.keyLost := true }
  | .ending | .closed => s

/-! ## What follows an operation -/

/-- What waited for an aborted session: an INSTALL_END or INSTALL_ABORT is answered NO_SESSION (R79). -/
def State.answerLate (s : State) (waits : List SessionWait) : State :=
  if waits.any (fun w => w != .keyWithdrawn) then s.bookAnswer 19 else s

/-- After a word program of the host (R78 to R81): the first thing that waited decides. -/
def State.afterHostWord (s : State) (ended : Bool) : State :=
  match s.tariff.session.waits with
  | .keyWithdrawn :: _ => s.markSlot s.sessionSlot .rejected (.abortMark true)
  | .request .installEnd :: _ =>
    if ended then s.beginEnding else s.markSlot s.sessionSlot .rejected (.endReject 21 none)
  | .request .installAbort :: _ => s.beginAbort
  | _ => if ended then s else s.markSlot s.sessionSlot .rejected (.abortMark false)

/-- The second step of INSTALL_END: validation, then the VALID or REJECTED marking (R80). -/
def State.afterLoaded (s : State) : State :=
  let slot := s.sessionSlot
  if s.markDone slot .loaded then
    match s.validate slot true with
    | .passes _ => s.markSlot slot .valid .endValid
    | .fails reason => s.markSlot slot .rejected (.endReject 20 (some (codeWord reason)))
  else s.markSlot slot .rejected (.endReject 21 none)

/-- The WRITING marking of INSTALL_BEGIN has ended (R77). -/
def State.afterWriting (s : State) : State :=
  let slot := s.sessionSlot
  if s.tariff.session.keyLost then s.markSlot slot .rejected (.beginReject 17)
  else if s.markDone slot .writing then { s with tariff.session.state := .opened }.bookAnswer 16
  else
    let t := s.closeSession.bookAnswer 21
    if s.slotState slot = .rejected then t else t.markSlot slot .rejected .rejectOnly

/-- The RETIRED marking of a changeover has ended, or there was no old slot (R84, step 2). -/
def State.putInForce (s : State) (stale : Option BookSlot) : State :=
  { s with
    tariff.inForce := s.tariff.pendingSlot
    tariff.pendingSlot := none
    tariff.stale := stale
    tariff.change := some .toFill }

/-- The changeover mark is cleared: a waiting OPEN is taken (R83). -/
def State.endChangeover (s : State) : State := { s with tariff.change := none }.releaseOpen

/-- What follows the end of an operation; `ended` says that FBUSY ended it, not the wait limit. After a
marking of start-up (R87) the procedure itself goes on from `State.booksGoOn`. A failed CANCEL_PENDING marking that
leaves the word reading ACTIVE keeps the slot pending, as one that leaves it VALID does: R81 gives RETIRED, REJECTED
and VALID alone (DESIGN CHOICE, log 53). A KEY withdrawal met while the REJECTED marking of a failed erase is in flight
makes no second marking, and the answer becomes NO_KEY with BOOK_REJECTED (DESIGN CHOICE, log 55); one met while the
marking of an INSTALL_ABORT, or of a failed program with an INSTALL_END waiting, is in flight is dropped (DESIGN
CHOICE, log 56). -/
def State.jobEnded (s : State) (use : FlashUse) (ended : Bool) : State :=
  let session := s.tariff.session
  let slot := session.slot
  match use with
  | .beginErase =>
    if session.keyLost then s.markSlot slot .rejected (.beginReject 17)
    else if ended then s.markSlot slot .writing .beginMark
    else s.markSlot slot .rejected (.beginReject 21)
  | .beginMark => s.afterWriting
  | .beginReject code =>
    (s.closeSession.keyRejected session.keyLost).bookAnswer (if session.keyLost then 17 else code)
  | .rejectOnly => s
  | .hostWord => s.afterHostWord ended
  | .endLoaded => s.afterLoaded
  | .endValid =>
    if s.markDone slot .valid then
      { s with tariff.pendingSlot := some slot, tariff.due := false }.closeSession.bookAnswer 16
    else s.markSlot slot .rejected (.endReject 21 none)
  | .endReject code reason =>
    match reason with
    | some r => (s.raise .bookRejected r).closeSession.bookAnswer code
    | none => s.closeSession.bookAnswer code
  | .abortMark key =>
    (s.closeSession.keyRejected (key || session.waits.contains .keyWithdrawn)).answerLate session.waits
  | .abortRequest =>
    s.closeSession.bookAnswer (if s.markDone slot .rejected then 16 else 21)
  | .cancelMark =>
    match s.tariff.pendingSlot with
    | some p =>
      { s with tariff.pendingSlot := if s.slotGone p then none else some p }.bookAnswer
        (if s.markDone p .retired then 16 else 21)
    | none => s.bookAnswer 21
  | .changeActive =>
    match s.tariff.pendingSlot with
    | some p =>
      if s.markDone p .active then { s with tariff.change := some .toRetire }
      else { s with tariff.retry := true }.endChangeover
    | none => s.endChangeover
  | .changeRetire old => s.putInForce (if s.slotState old = .active then some old else none)
  | .staleRetire old =>
    if s.slotGone old ∧ s.tariff.stale = some old then { s with tariff.stale := none } else s
  | .startReject => s
  | .startRejectPending reason => s.raise .bookRejected reason
  | .startRetire old => if s.markDone old .retired then s else { s with tariff.stale := some old }

/-- The programmer takes the next job that waits, if it is IDLE (log 23). -/
def State.nextJob (s : State) : State :=
  match s.tariff.prog.job, s.tariff.prog.jobs with
  | none, j :: rest => { s with tariff.prog.jobs := rest }.beginJob j
  | _, _ => s

/-- The programmer becomes IDLE and the unit that asked is told (R74). -/
def State.endJob (s : State) (j : FlashJob) (ended : Bool) : State :=
  let free := { s.tariff.prog with job := none, waitsFbusy := false, timer := none }
  ({ s with tariff.prog := free }.jobEnded j.use ended).nextJob

/-- The use is a marking, which is read back (R68). -/
def FlashUse.marks : FlashUse → Bool
  | .beginErase | .hostWord => false
  | _ => true

/-! ## The flash device (R74, log 11) -/

/-- Write words straight into memory, as the flash does within an operation. -/
def Memory.writeRun (m : Memory) (a : Nat) : List Word → Memory
  | [] => m
  | w :: rest => Memory.writeRun (m.writeWord a w) (a + 2) rest

/-- The byte length of a book slot. -/
def slotBytes : Nat := 8192

/-- Memory when an operation has ended by FBUSY: a slot erased, or bits cleared (R74). -/
def FlashOp.done (op : FlashOp) (m : Memory) : Memory :=
  match op with
  | .erase base => m.unlist base (base + slotBytes)
  | .program a v => m.writeWord a (m.readWord a &&& v)

/-- Memory as the flash leaves it of an operation that did not end (log 11): of an erase, the words given
from the slot's first on; of a program, the bits of the value's zeros that `left` names are still set. -/
def FlashOp.left (op : FlashOp) (left : List Word) (m : Memory) : Memory :=
  match op with
  | .erase base => m.writeRun base (left.take 4096)
  | .program a v => m.writeWord a (m.readWord a &&& (v ||| left.headD 0))

/-- The byte address of an operation's first word (R74). -/
def FlashOp.addr : FlashOp → Nat
  | .erase base => base
  | .program a _ => a

/-- The part of the device's unfinished operation that `left` gives takes place. -/
def State.flashLeft (s : State) (left : List Word) : State :=
  match s.flash.op with
  | some op => { s with mem := op.left left s.mem }
  | none => s

/-- The job whose operation FBUSY, when it is deasserted, ends: its command writes have been made. -/
def State.jobBusy (s : State) : Option FlashJob :=
  if s.tariff.prog.waitsFbusy = false ∧ s.flash.fbusy = true then s.tariff.prog.job else none

/-- The job whose wait limit has run out, FBUSY being asserted. -/
def State.jobLate (s : State) : Option FlashJob :=
  if s.tariff.prog.timer = some 0 ∧ s.flash.fbusy = true then s.tariff.prog.job else none

/-- FBUSY is deasserted. -/
def State.fbusyOff (s : State) : State := { s with flash := { fbusy := false, op := none } }

/-- The flash has done an operation, and FBUSY is deasserted. -/
def State.flashDone (s : State) (op : FlashOp) : State := { s.fbusyOff with mem := op.done s.mem }

/-- FLASH_OP_END (R74): FBUSY is deasserted after the command. -/
def State.flashOpEnd (s : State) : State :=
  match s.jobBusy with
  | some j => (s.flashDone j.op).endJob j true
  | none => s

/-- FLASH_WAIT_LIMIT (R74): the timer runs out with FBUSY asserted. -/
def State.flashWaitLimit (s : State) (left : List Word) : State :=
  match s.jobLate with
  | some j => ((s.flashLeft left).raise .flashTimeout (BitVec.ofNat 16 j.op.addr)).endJob j false
  | none => s

/-- FBUSY is deasserted with no command of the programmer's in flight (R74): a waiting programmer makes
its command writes, and its timer runs on. -/
def State.fbusyFree (s : State) (left : List Word) : State :=
  let t := (s.flashLeft left).fbusyOff
  match s.tariff.prog.job with
  | some j =>
    { t with tariff.prog.waitsFbusy := false, flash := { fbusy := true, op := some j.op } }
  | none => t

/-- FBUSY is asserted and no command of the programmer's is in flight. -/
def State.fbusyAlone (s : State) : Bool :=
  s.flash.fbusy && (s.tariff.prog.job.isNone || s.tariff.prog.waitsFbusy)

/-! ## The minute mark and the changeover (R82 to R84) -/

/-- The pending book becomes due at this minute (R82). -/
def State.becomesDue (s : State) : Bool :=
  match s.tariff.pendingSlot with
  | some p =>
    !s.tariff.due && s.tariff.hand != some .cancelPending
      && decide ((s.effectiveMinute p).toNat ≤ s.time.minute.toNat)
  | none => false

/-- The mark looks at the effective minute of the pending book (R82). -/
def State.looksAtPending (s : State) : Bool :=
  s.tariff.pendingSlot.isSome && !s.tariff.due && s.tariff.hand != some .cancelPending

/-- A changeover is begun or deferred at this mark: its book becomes due, or its step 1 has failed (R82, R84). -/
def State.comesUp (s : State) : Bool := s.becomesDue || (s.tariff.due && s.tariff.retry)

/-- A minute mark at the tariff unit (R82 to R84). A changeover that comes up is begun, or deferred with BOOK_DEFERRED
(R86); one deferred before is begun if the sale context allows it. It goes before a check due at the same mark
(DESIGN CHOICE, log 40). -/
def State.tariffMark (s : State) : State :=
  if s.comesUp then
    let t := { s with tariff.due := true, tariff.retry := false }
    if t.sale.state.quiet then t.beginChangeover else t.raiseSource .book 2
  else s.beginChangeover

/-- Step 3 of a changeover: the cache is filled from the slot in force (R73, R84). -/
def State.fillCache (s : State) : State :=
  match s.tariff.inForce with
  | some f =>
    match s.validate f false with
    | .passes copy => { s with tariff.cache := some copy }.removeCondition .tariffBad
    | .fails reason => { s with tariff.cache := none }.raise .tariffBad (codeWord reason)
  | none => s

/-- CHANGEOVER (R84): the next part of a begun changeover (log 21). -/
def State.changeover (s : State) : State :=
  if s.tariff.prog.idle then
    match s.tariff.change with
    | some .toActivate =>
      match s.tariff.pendingSlot with
      | some p => { s with tariff.change := some .activating }.markSlot p .active .changeActive
      | none => s.endChangeover
    | some .toRetire =>
      match s.tariff.inForce with
      | some old => { s with tariff.change := some .retiring }.markSlot old .retired (.changeRetire old)
      | none => s.putInForce none
    | some .toFill =>
      { s.fillCache.raiseSource .book 1 with tariff.due := false }.endChangeover
    | some .activating | some .retiring | none => s
  else s

/-! ## The daily check (R85) -/

/-- The pass of the daily check. -/
def State.checkInForce (s : State) : State :=
  match s.tariff.inForce with
  | some f =>
    match s.validate f false with
    | .passes copy =>
      { s with tariff.cache := some (s.tariff.cache.getD copy) }.removeCondition .tariffBad
    | .fails reason => s.raise .tariffBad (codeWord reason)
  | none => s

/-- After the check a stale slot is marked RETIRED. -/
def State.retireStale (s : State) : State :=
  match s.tariff.stale with
  | some old => s.markSlot old .retired (.staleRetire old)
  | none => s

/-- A daily check that waits can be made (R85). -/
def State.checkRuns (s : State) : Bool :=
  s.tariff.checkDue && s.tariff.change == none && s.tariff.prog.idle

/-- DAILY_CHECK (R85), after a changeover that has begun (DESIGN CHOICE, log 40). -/
def State.dailyCheck (s : State) : State :=
  if s.checkRuns then
    { s with tariff.checkDue := false }.checkInForce.retireStale
  else s

/-! ## Host writes into the BOOK window (R33, R78) -/

/-- A word write to this byte address is taken by the open session (R33). -/
def State.sessionTakes (s : State) (a : Nat) : Bool :=
  let base := s.bookAddr s.sessionSlot
  s.tariff.session.state == .opened && decide (base + 2 ≤ a) && decide (a < base + slotBytes)

/-- A word of the open session slot is handed to the programmer (R78). -/
def State.programWord (s : State) (a : Nat) (data : Word) : State :=
  s.startJob { op := .program a data, use := .hostWord }

end Sys2Proof.Machine
end

