-- ==== Sys2Proof/Machine/Timing.lean ====
section
/-! DEFINITION. The machine minute and the TIME request, the line monitor, and the millisecond tick
(chapter 11, R136; 00_scope 3.4). -/

namespace Sys2Proof.Machine

/-! ## The TIME request (R176) -/

/-- A TIME request is also a day rollover (R176). -/
def State.rollsOver (s : State) (minute : DWord) : Bool :=
  !s.time.timeSet || dayOf s.time.minute.toNat != dayOf minute.toNat

/-- A TIME request: the word written to TIME_HI with the latched low half (R176); a check that waits already takes
in the day rollover (DESIGN CHOICE, log 40). -/
def State.takeTime (s : State) (high : Word) : State :=
  let minute := mkDWord s.time.low high
  if minute = 0xFFFFFFFF then { s with time.timeHi := 17 }.answer .timeResp
  else
    let t := { s with time.minute := minute, time.timeSet := true, time.timeHi := 16
                      tariff.checkDue := s.tariff.checkDue || s.rollsOver minute }
    let u := t.removeCondition .timeUnset
    (if u.sale.state = .opened then u.startPrice else u).answer .timeResp

/-- An edge on MARK advances the machine minute (R175): time is set and the minute is not FFFFFFFEh. -/
def State.markCounts (s : State) : Bool :=
  s.time.timeSet && decide (s.time.minute.toNat < 0xFFFFFFFE)

/-- The machine minute advanced by 1. -/
def State.nextMinute (s : State) : State := { s with time.minute := s.time.minute + 1 }

/-! ## Lines (R136, R182) -/

/-- A line's registers. -/
def LineMonitor.get (m : LineMonitor) : Line → LineRegs
  | .door => m.door
  | .box => m.box
  | .key => m.key

/-- Put a line's registers. -/
def LineMonitor.set (m : LineMonitor) (l : Line) (r : LineRegs) : LineMonitor :=
  match l with
  | .door => { m with door := r }
  | .box => { m with box := r }
  | .key => { m with key := r }

/-- Every line has a debounced level. -/
def LineMonitor.settled (m : LineMonitor) : Bool :=
  m.door.level.isSome && m.box.level.isSome && m.key.level.isSome

/-- The line monitor works: the configuration has been handed out (R136). -/
def State.monitors (s : State) : Bool := s.path.map.isSome

/-- The registers after the raw level changes (R136): unsettled, the interval begins afresh; settled, the
timer starts when the level departs from the debounced one and stops when it returns. -/
def LineRegs.rawTo (r : LineRegs) (level : Bool) (debounce : Nat) : LineRegs :=
  { r with raw := level
           timer := match r.level with
             | none => some debounce
             | some d => if level = d then none else some debounce }

/-- RAW_LINE_CHANGE (R136). -/
def State.rawLine (s : State) (l : Line) (level : Bool) : State :=
  let r := s.lines.get l
  if r.raw = level then s
  else if s.monitors then { s with lines := s.lines.set l (r.rawTo level s.cfg.debounceMs) }
  else { s with lines := s.lines.set l { r with raw := level } }

/-- The registers of a line whose debounced level takes the raw level. -/
def LineRegs.taken (r : LineRegs) : LineRegs := { r with level := some r.raw, timer := none }

/-- A line settles at its raw level, with no change delivered (R136). -/
def LineRegs.settle (r : LineRegs) : LineRegs := if r.level.isSome then r else r.taken

/-- LINE_SETTLED (R136): the line has held one level for a full debounce interval; LINES follows (R149), a line
that has not settled counting as deasserted (DESIGN CHOICE, log 49). -/
def State.settleLine (s : State) (l : Line) : State :=
  let m := s.lines.set l (s.lines.get l).taken
  { s with lines := { m with settleLimit := if m.settled then none else m.settleLimit } }.linesIfMoved
    s.shownLevels

/-- LINE_SETTLE_LIMIT (R182): every unsettled line is taken at its raw level; LINES follows as in
`State.settleLine`. -/
def State.settleAll (s : State) : State :=
  { s with lines := { door := s.lines.door.settle, box := s.lines.box.settle
                      key := s.lines.key.settle, settleLimit := none } }.linesIfMoved s.shownLevels

/-! ## The millisecond tick (DESIGN CHOICE, log 5) -/

/-- A running timer counts down to 0. -/
def tickTimer (t : Option Nat) : Option Nat := t.map fun n => n - 1

/-- A COMPLETE slot's discard timer counts (R39). -/
def DelayedSlot.tick : DelayedSlot → DelayedSlot
  | .complete read value timer => .complete read value (timer - 1)
  | .waiting read => .waiting read
  | .empty => .empty

/-- A line's settle timer counts. -/
def LineRegs.tick (r : LineRegs) : LineRegs := { r with timer := tickTimer r.timer }

/-- One millisecond passes: every running timer counts. -/
def State.tick (s : State) : State :=
  { s with
    path.slot := s.path.slot.tick
    tariff.prog.timer := tickTimer s.tariff.prog.timer
    lines := { door := s.lines.door.tick, box := s.lines.box.tick, key := s.lines.key.tick
               settleLimit := tickTimer s.lines.settleLimit }
    start.fbusyLimit := tickTimer s.start.fbusyLimit }

end Sys2Proof.Machine
end

