-- ==== Sys2Proof/WellFormed.lean ====
section
/-! DEFINITION. When a command's operands are ones its row of the table can carry. A command that is
not well formed still has a meaning, the one its access or value has (log 3). -/

namespace Sys2Proof

/-- At least one byte enable is asserted (R26: an access with none is no access to a word). -/
def someEnable (hi lo : Bool) : Bool := hi || lo

/-- The operands are ones the row can carry. -/
def Instr.wellFormed : Instr → Bool
  | .heldRead _ hi lo => someEnable hi lo
  | .delayedReadRepeat _ hi lo => someEnable hi lo
  | .inputCellWrite _ hi lo _ => someEnable hi lo
  | .permitNo _ hi lo _ => someEnable hi lo
  | .timeLo hi lo _ => someEnable hi lo
  | .jexportLow hi lo _ => someEnable hi lo
  | .ownedCellWrite _ hi lo _ => someEnable hi lo
  | .bookWindowWrite _ hi lo _ => someEnable hi lo
  | .attnTake hi lo => someEnable hi lo
  | .saleCmdUnknown v => v.toNat == 0 || decide (4 < v.toNat)
  | .permitReqUnknown v => v.toNat == 0 || decide (2 < v.toNat)
  | .serviceCmdUnknown v => (loByte v).toNat == 0 || decide (3 < (loByte v).toNat)
  | .collectCmdUnknown v => v.toNat == 0 || decide (2 < v.toNat)
  | .bookCmdUnknown v => v.toNat == 0 || decide (4 < v.toNat)
  | .faultCmdUnknown v => v.toNat != 1
  | .report v => decide (1 ≤ v.toNat) && decide (v.toNat ≤ 255)
  | .reportBadCode v => v.toNat == 0 || decide (255 < v.toNat)
  | .hostPassThrough _ | .openSale | .commit | .commitWaitEnd | .abandon | .clear | .coinIn _
  | .cardIn _ | .check | .drop | .time _ | .salesOff _ | .salesOn _ | .clearStop _ | .authorise
  | .clearIntrusion | .installBegin | .installEnd | .installAbort | .cancelPending | .pop
  | .attnEos _ | .attnEnable _ | .jexport _ | .pexport _ | .amendTail _ | .groupWrite
  | .imageRewrite | .memoryPortGrant _ | .staleRead | .bandStep | .priceRunComplete | .searchSeek
  | .searchScan | .commitPermitStep | .add | .replace | .revoke | .delete | .rollClear | .badOp
  | .scrubStep | .closeStep | .closeEnd | .periodClose | .periodCloseStep | .changeover
  | .dailyCheck | .flashOpEnd | .flashWaitLimit _ | .rawLineChange _ _ | .lineChange _
  | .minuteMark | .idleTimeout | .authorisationEnd | .powerOn _ | .hostReset _ | .startUp
  | .fbusyWaitLimit | .lineSettleLimit | .pathRunning | .fbusyDeasserted _ | .lineSettled _ => true

end Sys2Proof
end

