-- ==== Sys2Proof/Machine/Path.lean ====
section
/-! DEFINITION. The path unit: host accesses, the delayed-read slot, the group writer and the memory-port
arbiter (chapter 2). -/

namespace Sys2Proof.Machine

/-! ## Values the group writer writes (R36, R187, R188) -/

/-- SALE_STATE as SALE_RESP shows it: from the sale record step on, the state the close ends in (R10, R22). -/
def SaleUnit.shownState (u : SaleUnit) : SaleState :=
  if u.recordStep then (if u.commits then .closed else .void) else u.state

/-- ESCROW cells: 0 from the sale record step on (R10). -/
def SaleUnit.shownEscrow (u : SaleUnit) : List Word :=
  if u.recordStep then List.replicate 8 0 else u.escrow.toList

/-- LATE_COUNT: 0 from the sale record step on (R10). -/
def SaleUnit.shownLate (u : SaleUnit) : Word := if u.recordStep then 0 else u.lateTotal

/-- The words of a group, in the order of `Group.places`. -/
def State.groupWords (s : State) : Group → List Word
  | .saleResp =>
    [s.sale.saleCmd, codeWord s.sale.shownState.code] ++ dwords s.sale.number
      ++ [s.sale.refundDue, codeWord s.sale.voidReason.code, s.sale.commitFlags]
  | .tenderResp =>
    [s.sale.coinIn, s.sale.cardIn, sum16 s.sale.tendered, s.sale.inhibit, s.sale.shownLate]
      ++ s.sale.shownEscrow
  | .price =>
    let p := s.sale.price
    [p.charge] ++ dwords p.expiry ++ [p.flags, p.bandInfo, p.bookId] ++ dwords p.pricedAt ++ [p.overpay]
  | .permitResp =>
    [s.permit.permitReq, ((s.sale.permit.map PermitInUse.discount).getD 0).setWidth 16,
     ((s.sale.permit.map PermitInUse.category).getD 0).setWidth 16]
  | .timeResp => [s.time.timeHi]
  | .serviceResp => [s.fault.serviceCmd]
  | .collectResp => [s.cash.collectCmd]
  | .bookResp => [s.tariff.bookCmd]
  | .faultResp => s.fault.faultCmd :: s.fault.view
  | .eosResp => [s.fault.attnEos]
  | .enableResp => [s.fault.attnEnable]
  | .reportResp => [s.fault.reportCmd]
  | .jexportResp => dwords s.cash.exportMark
  | .pexportResp => [s.cash.pexport]
  | .amendResp => [s.permit.tail.setWidth 16, s.permit.amendStatus]

/-- The word writes of places with their values. -/
def State.writesOf (s : State) (ps : List ((Window × Nat) × Word)) : List (Nat × Word) :=
  ps.map fun p => (s.at p.1.1 p.1.2, p.2)

/-- The word writes of a group with the words given, in ascending address order (R36). -/
def State.writesWith (s : State) (g : Group) (ws : List Word) : List (Nat × Word) :=
  let pairs := g.places.zip ws
  let cash := s.writesOf (pairs.filter fun p => p.1.1 == .cash)
  let rest := s.writesOf (pairs.filter fun p => p.1.1 != .cash)
  if s.base .cash < s.base .sale then cash ++ rest else rest ++ cash

/-- The word writes of a group, with the words of the owning unit's state. -/
def State.groupWrites (s : State) (g : Group) : List (Nat × Word) := s.writesWith g (s.groupWords g)

/-- The offset of an image in the CONTROL window (R188). -/
def Image.offset : Image → Nat
  | .notice x => 19 + x.rank
  | .peek => 18
  | .take => 17
  | .stopSet => 24
  | .lines => 25
  | .routes => 26

/-- The words of an image (R36). -/
def State.imageWords (s : State) : Image → List Word
  | .notice x => [(s.fault.sources.get x).notice]
  | .peek => [s.vector]
  | .take => [s.fault.lastTake]
  | .stopSet => [stopWord s.fault.stop]
  | .lines => [s.shownLevels.word]
  | .routes => routeWords s.fault.routes

/-! ## The group writer (R36, R39) -/

/-- The slot when a group leaves the pending set: a latched word's slot goes COMPLETE (R39). -/
def DelayedSlot.leave (slot : DelayedSlot) (g : Group) (value : BitVec 23 → Word) (timer : Nat) :
    DelayedSlot :=
  match slot with
  | .waiting read => if read.group = g then .complete read (value read.word) timer else .waiting read
  | .complete read v t => .complete read v t
  | .empty => .empty

/-- A group leaves the pending set (R36, R39). -/
def State.leave (s : State) (g : Group) : State :=
  { s with
    path.ready := s.path.ready.filter (· != .group g)
    path.owed := s.path.owed.filter (· != g)
    path.slot := s.path.slot.leave g (fun w => s.word (2 * w.toNat)) s.cfg.discardMs }

/-- The units that wait on a group are told (R36). -/
def State.told (s : State) (g : Group) : State :=
  match g with
  | .saleResp | .tenderResp => s.closeGroupWritten g
  | .amendResp => s.handEntries
  | .price | .permitResp | .timeResp | .serviceResp | .collectResp | .bookResp | .faultResp | .eosResp
  | .enableResp | .reportResp | .jexportResp | .pexportResp => s

/-- GROUP_WRITE (R36): the group at the front of the ready order. -/
def State.groupWrite (s : State) : State :=
  match s.path.ready with
  | .group g :: _ => ((s.putAll (s.groupWrites g)).leave g).told g
  | _ => s

/-- IMAGE_REWRITE (R36): the image at the front of the ready order. -/
def State.imageRewrite (s : State) : State :=
  match s.path.ready with
  | .image i :: rest =>
    { s.putRun (s.at .control i.offset) (s.imageWords i) with path.ready := rest }
  | _ => s

/-! ## The arbiter (R42, R74, log 13) -/

/-- The engine after this one in the circle. -/
def Engine.next : Engine → Engine
  | .groupWriter => .cashWriter
  | .cashWriter => .permitUnit
  | .permitUnit => .tariffUnit
  | .tariffUnit => .startUpReader
  | .startUpReader => .groupWriter

/-- The circle from an engine on. -/
def Engine.circle (e : Engine) : List Engine :=
  [e, e.next, e.next.next, e.next.next.next, e.next.next.next.next]

/-- An engine is granted: the pointer moves past it and the count returns to 0. -/
def Arbiter.serve (b : Arbiter) (e : Engine) : Arbiter :=
  { b with granted := some (.engine e), pointer := e.next, count := 0 }

/-- One grant (R42): `waits` says which engines wait. -/
def Arbiter.grant (b : Arbiter) (waits : Engine → Bool) (host : Bool) : Arbiter :=
  match b.pointer.circle.find? waits with
  | some e =>
    if host ∧ b.count < 8 then { b with granted := some .host, count := b.count + 1 } else b.serve e
  | none => if host then { b with granted := some .host } else b

/-- A host access waits until it is granted: at most one engine is granted before it. -/
def Arbiter.hostServed (b : Arbiter) (waits : Engine → Bool) : Arbiter :=
  let c := b.grant waits true
  if c.granted = some .host then c else c.grant waits true

/-- The cash writer has words to write: a close in hand that does not wait for the group writer, or a period close
that can be taken (R146). -/
def State.cashWrites (s : State) : Bool :=
  match s.cash.close with
  | some c => c.kind == .period || c.stepDone != 4
  | none => s.cash.waiting.head? == some .periodClose && !s.saleCloseComes

/-- The holder of the roll lock has words to read or write: not a commit step that has handed its part to the
close, nor an abandoned search. -/
def State.rollWorks (s : State) : Bool :=
  match s.permit.lock.holder with
  | some .commitStep => s.sale.permitPart.isNone
  | some .search => !s.permit.dying
  | some .amendment | some .scrub => true
  | none => false

/-- A step of a changeover or the daily check waits for the port, the programmer being IDLE. -/
def State.bookWorks (s : State) : Bool :=
  s.tariff.prog.idle &&
    match s.tariff.change with
    | some .toActivate | some .toRetire | some .toFill => true
    | some .activating | some .retiring => false
    | none => s.tariff.checkDue

/-- A wait of start-up has ended: for FBUSY, or for the lines to settle (R179, R182). -/
def State.readerWorks (s : State) : Bool :=
  (s.start.phase == .waitFbusy && (!s.flash.fbusy || s.start.fbusyLimit == some 0))
    || (s.start.phase == .waitLines && s.lines.settleLimit == some 0)

/-- The engine has work at the port between two rows. -/
def State.engineWaits (s : State) : Engine → Bool
  | .groupWriter => !s.path.ready.isEmpty
  | .cashWriter => s.cashWrites
  | .permitUnit => s.rollWorks
  | .tariffUnit => s.bookWorks
  | .startUpReader => s.readerWorks

/-- The engine waits for the port; in TRANSPARENT the port is granted to the host alone (R46). -/
def State.portWaits (s : State) (e : Engine) : Bool := s.path.mode != .transparent && s.engineWaits e

/-- MEMORY_PORT_GRANT (R42): one grant by itself; none while a reset is held (R178). -/
def State.portGrant (s : State) (host : Bool) : State :=
  if s.start.phase = .held then s else { s with path.arb := s.path.arb.grant s.portWaits host }

/-- The grant of a host access that reaches memory. -/
def State.hostGrant (s : State) : State := { s with path.arb := s.path.arb.hostServed s.portWaits }

/-- The grants of the engines that have used the port, in this order. -/
def State.served (s : State) (es : List Engine) : State :=
  { s with path.arb := es.foldl Arbiter.serve s.path.arb }

/-- The engine that used the port last when the procedure of start-up has come to a point: the reader, or the
unit whose step it was. -/
def StartPhase.engines : StartPhase → List Engine
  | .held | .waitFbusy => []
  | .books _ => [.tariffUnit]
  | .waitClose | .waitPeriod => [.cashWriter]
  | .waitOwed => [.permitUnit]
  | .waitLines | .done => [.startUpReader]

/-- The engines that used the port in a row from `s` to `t` after its own `own` words: the cash writer when more
words were driven, the tariff unit when its programmer made command writes (R74); where the row carried start-up
on, the engine of the point it came to. -/
def State.enginesTo (s t : State) (own : Nat) : List Engine :=
  if t.start.phase = s.start.phase then
    (if own < t.driven.length then [.cashWriter] else [])
      ++ (if !s.flash.fbusy && t.flash.fbusy then [.tariffUnit] else [])
  else t.start.phase.engines

/-- A row's end `t`, with the grants of the engines that used the port in it: first those given, whose words among
the driven are `own`, then what the units did (log 13). -/
def State.rowTo (s t : State) (first : List Engine) (own : Nat := 0) : State :=
  t.served (first ++ s.enginesTo t own)

/-- This engine, if the row drove words. -/
def State.engineIf (t : State) (e : Engine) : List Engine := if t.driven.isEmpty then [] else [e]

/-! ## Requests handed over (R28, R29) -/

/-- An observed value or a request is handed to the unit that owns the cell (R28, R29). -/
def State.hand (s : State) (c : Cell) (v : Word) : State :=
  match c with
  | .saleCmd => s.takeSaleWork (.cmd v)
  | .coinIn => s.takeSaleWork (.coin v)
  | .cardIn => s.takeSaleWork (.card v)
  | .permitNoLow => { s with permit.kept := mkDWord v (hiWord s.permit.kept) }
  | .permitNoHigh => { s with permit.kept := mkDWord (loWord s.permit.kept) v }
  | .permitReq => s.takePermit v
  | .timeLo => { s with time.low := v }
  | .timeHi => s.takeTime v
  | .serviceCmd => s.takeService v
  | .collectCmd => s.takeCollect v
  | .bookCmd => s.takeBook v
  | .faultCmd => s.takeFaultCmd v
  | .reportCmd => s.takeReport v
  | .attnEos => s.endService
  | .attnEnable => s.setEnables v
  | .attnTake => s
  | .jexportLow => { s with cash.exportLow := v }
  | .jexportHigh => s.jexport v
  | .pexport => s.pexport v
  | .amendTail => s.takeTail v

/-! ## Host writes -/

/-- End an access RETRY. -/
def State.retry (s : State) : State := s.replyWith .retry .none

/-- A write is granted the port, reaches memory and is ended READY. -/
def State.writeThrough (s : State) (word : BitVec 23) (hi lo : Bool) (data : Word) : State :=
  (s.hostGrant.putBytes (2 * word.toNat) hi lo data).replyWith .ready .none

/-- A write is refused with ERROR and raises WINDOW_VIOLATION (R30). -/
def State.refuse (s : State) (word : BitVec 23) : State :=
  (s.raise .windowViolation (lowAddr word)).replyWith .error .none

/-- A host write of any size to the latched word empties the slot (R40). -/
def State.unlatch (s : State) (word : BitVec 23) : State :=
  match s.path.slot with
  | .empty => s
  | .waiting read => if read.word = word then { s with path.slot := .empty } else s
  | .complete read _ _ => if read.word = word then { s with path.slot := .empty } else s

/-- The group of a place is in the pending set. -/
def State.pendingAt (s : State) (place : Window × Nat) : Bool :=
  match groupAt place with
  | some g => decide (g ∈ s.path.owed)
  | none => false

/-- A write to an input cell (R28). -/
def State.writeInput (s : State) (place : Window × Nat) (word : BitVec 23) (hi lo : Bool)
    (data : Word) : State :=
  if s.pendingAt place then s.retry
  else
    let t := s.writeThrough word hi lo data
    match cellAt place with
    | some c => t.hand c (t.word (2 * word.toNat))
    | none => t

/-- A group enters the pending set with a request taken (R29). -/
def State.oweAt (s : State) (place : Window × Nat) : State :=
  match groupAt place with
  | some g => s.owe g
  | none => s

/-- A write to a command cell (R29). -/
def State.writeCommand (s : State) (place : Window × Nat) (word : BitVec 23) (hi lo : Bool)
    (data : Word) : State :=
  if (hi && lo) = false then s.refuse word
  else if s.pendingAt place && cellAt place != some .permitReq then s.retry
  else
    let t := (s.writeThrough word hi lo data).oweAt place
    match cellAt place with
    | some c => t.hand c data
    | none => t

/-- A write into the BOOK window (R33). -/
def State.writeBook (s : State) (word : BitVec 23) (hi lo : Bool) (data : Word) : State :=
  let a := 2 * word.toNat
  if hi && lo && s.sessionTakes a then (s.programWord a data).replyWith .ready .none
  else s.refuse word

/-- A host write in RUNNING to a word that a window holds. An owned word is refused, its group pending or not
(DESIGN CHOICE, log 38). -/
def State.writePlace (s : State) (place : Window × Nat) (word : BitVec 23) (hi lo : Bool)
    (data : Word) : State :=
  if place.1 = .book then s.writeBook word hi lo data
  else
    match s.kindAt place with
    | .owned => s.refuse word
    | .command => s.writeCommand place word hi lo data
    | .input => s.writeInput place word hi lo data

/-- The window and offset of a word address; none while the map is empty. -/
def State.placeOf (s : State) (word : BitVec 23) : Option (Window × Nat) :=
  match s.path.map with
  | some m => m.place word
  | none => none

/-- The access is to flash while the flash is busy (R41). -/
def State.flashHolds (s : State) (word : BitVec 23) : Bool :=
  s.flashBusy && decide (2 * word.toNat < 0x800000)

/-- A host write in RUNNING. -/
def State.runningWrite (s : State) (word : BitVec 23) (hi lo : Bool) (data : Word) : State :=
  if s.flashHolds word then s.retry
  else
    match s.placeOf word with
    | none => s.writeThrough word hi lo data
    | some place => (s.unlatch word).writePlace place word hi lo data

/-! ## Host reads -/

/-- A read is granted the port and passes through to memory. -/
def State.readThrough (s : State) (word : BitVec 23) (hi lo : Bool) : State :=
  s.hostGrant.replyWith .ready (dataOf (s.word (2 * word.toNat)) hi lo)

/-- A held read: it is latched when the slot is EMPTY (R37). -/
def State.holdRead (s : State) (word : BitVec 23) (hi lo : Bool) (g : Group) : State :=
  (if s.path.slot = .empty then
    { s with path.slot := .waiting { word := word, size := sizeOf hi lo, group := g } }
  else s).retry

/-- A read of ATTN_TAKE in RUNNING (R31). -/
def State.readTake (s : State) (hi lo : Bool) : State :=
  s.take.replyWith .ready (dataOf s.vector hi lo)

/-- A read in RUNNING that the slot does not answer (R27). -/
def State.readPlace (s : State) (word : BitVec 23) (hi lo : Bool) : State :=
  match s.placeOf word with
  | none => s.readThrough word hi lo
  | some place =>
    if cellAt place = some .attnTake then s.readTake hi lo
    else
      match groupAt place with
      | some g => if g ∈ s.path.owed then s.holdRead word hi lo g else s.readThrough word hi lo
      | none => s.readThrough word hi lo

/-- A read in RUNNING (R27, R38, R41). -/
def State.runningRead (s : State) (word : BitVec 23) (hi lo : Bool) : State :=
  if s.flashHolds word then s.retry
  else
    match s.path.slot with
    | .waiting read =>
      if read.word = word ∧ read.size = sizeOf hi lo then s.retry else s.readPlace word hi lo
    | .complete read value _ =>
      if read.word = word ∧ read.size = sizeOf hi lo then
        { s with path.slot := .empty }.replyWith .ready (dataOf value hi lo)
      else s.readPlace word hi lo
    | .empty => s.readPlace word hi lo

/-! ## A host access (R26 to R46, R178) -/

/-- A host access in RUNNING; one with no byte enable is ended at once (R26, log 14). -/
def State.hostRunning (s : State) (a : Access) : State :=
  if someEnable a.hi a.lo then
    match a.data with
    | some d => s.runningWrite a.word a.hi a.lo d
    | none => s.runningRead a.word a.hi a.lo
  else s.replyWith .ready (if a.data.isSome then .none else .word 0)

/-- A host access in STARTING: writes are answered RETRY and reads pass through (R44). -/
def State.hostStarting (s : State) (a : Access) : State :=
  if a.data.isSome then s.retry
  else if someEnable a.hi a.lo = false then s.replyWith .ready (.word 0)
  else if s.flashHolds a.word then s.retry
  else s.readThrough a.word a.hi a.lo

/-- A host access in TRANSPARENT: it passes through (R46). -/
def State.hostTransparent (s : State) (a : Access) : State :=
  if someEnable a.hi a.lo then
    match a.data with
    | some d => s.writeThrough a.word a.hi a.lo d
    | none => s.readThrough a.word a.hi a.lo
  else s.replyWith .ready (if a.data.isSome then .none else .word 0)

/-- A host access that is not held by a reset, by the path mode. -/
def State.hostInMode (s : State) (a : Access) : State :=
  match s.path.mode with
  | .running => s.hostRunning a
  | .starting => s.hostStarting a
  | .transparent => s.hostTransparent a

/-- A host access; while a reset is held every access is answered RETRY (R178). What the units then do at the
port follows its own word. -/
def State.host (s : State) (a : Access) : State :=
  if s.start.phase = .held then s.retry
  else s.rowTo (s.hostInMode a) [] 1

/-- A word write to a named cell. -/
def State.hostCell (s : State) (c : Cell) (v : Word) : State :=
  s.host { word := s.cellAddr c, hi := true, lo := true, data := some v }

/-! ## The discard timer (R39) -/

/-- STALE_READ (R39): the timer has run out with the slot COMPLETE. -/
def State.staleRead (s : State) : State :=
  match s.path.slot with
  | .complete read _ 0 => { s with path.slot := .empty }.raise .staleRead (lowAddr read.word)
  | _ => s

end Sys2Proof.Machine
end

