-- ==== Sys2Proof/Machine/AccessRows.lean ====
section
/-! DEFINITION. The meanings of the rows that are host accesses: the access is put to the path unit,
which classifies it (chapter 2). -/

namespace Sys2Proof.Machine

/-- A host read. -/
def State.hostRead (s : State) (word : BitVec 23) (hi lo : Bool) : State :=
  s.host { word := word, hi := hi, lo := lo, data := none }

/-- A host write. -/
def State.hostWrite (s : State) (word : BitVec 23) (hi lo : Bool) (data : Word) : State :=
  s.host { word := word, hi := hi, lo := lo, data := some data }

/-- HOST_PASS_THROUGH (R26): a host access; the part classifies it (log 3). -/
def execHostPassThrough (access : Access) (s : State) : Out := .next (s.begin.host access)

/-- HELD_READ (R37). -/
def execHeldRead (word : BitVec 23) (hi lo : Bool) (s : State) : Out :=
  .next (s.begin.hostRead word hi lo)

/-- DELAYED_READ_REPEAT (R38). -/
def execDelayedReadRepeat (word : BitVec 23) (hi lo : Bool) (s : State) : Out :=
  .next (s.begin.hostRead word hi lo)

/-- INPUT_CELL_WRITE (R28). -/
def execInputCellWrite (word : BitVec 23) (hi lo : Bool) (data : Word) (s : State) : Out :=
  .next (s.begin.hostWrite word hi lo data)

/-- PERMIT_NO (R94). -/
def execPermitNo (second hi lo : Bool) (data : Word) (s : State) : Out :=
  .next (s.begin.hostWrite (s.cellAddr (if second then .permitNoHigh else .permitNoLow)) hi lo data)

/-- TIME_LO (R176). -/
def execTimeLo (hi lo : Bool) (data : Word) (s : State) : Out :=
  .next (s.begin.hostWrite (s.cellAddr .timeLo) hi lo data)

/-- JEXPORT_LOW (R131). -/
def execJexportLow (hi lo : Bool) (data : Word) (s : State) : Out :=
  .next (s.begin.hostWrite (s.cellAddr .jexportLow) hi lo data)

/-- OWNED_CELL_WRITE (R30). -/
def execOwnedCellWrite (word : BitVec 23) (hi lo : Bool) (data : Word) (s : State) : Out :=
  .next (s.begin.hostWrite word hi lo data)

/-- BOOK_WINDOW_WRITE (R33). -/
def execBookWindowWrite (word : BitVec 23) (hi lo : Bool) (data : Word) (s : State) : Out :=
  .next (s.begin.hostWrite word hi lo data)

/-- OPEN (R5). -/
def execOpen (s : State) : Out := .next (s.begin.hostCell .saleCmd 1)

/-- COMMIT (R7). -/
def execCommit (s : State) : Out := .next (s.begin.hostCell .saleCmd 2)

/-- ABANDON (R12). -/
def execAbandon (s : State) : Out := .next (s.begin.hostCell .saleCmd 3)

/-- CLEAR (R13). -/
def execClear (s : State) : Out := .next (s.begin.hostCell .saleCmd 4)

/-- SALE_CMD_UNKNOWN (R4). -/
def execSaleCmdUnknown (value : Word) (s : State) : Out := .next (s.begin.hostCell .saleCmd value)

/-- COIN_IN (R14). -/
def execCoinIn (index : Word) (s : State) : Out := .next (s.begin.hostCell .coinIn index)

/-- CARD_IN (R15). -/
def execCardIn (pence : Word) (s : State) : Out := .next (s.begin.hostCell .cardIn pence)

/-- CHECK (R96). -/
def execCheck (s : State) : Out := .next (s.begin.hostCell .permitReq 1)

/-- DROP (R97). -/
def execDrop (s : State) : Out := .next (s.begin.hostCell .permitReq 2)

/-- PERMIT_REQ_UNKNOWN (R97). -/
def execPermitReqUnknown (value : Word) (s : State) : Out :=
  .next (s.begin.hostCell .permitReq value)

/-- TIME (R176). -/
def execTime (high : Word) (s : State) : Out := .next (s.begin.hostCell .timeHi high)

/-- SALES_OFF (R164). -/
def execSalesOff (high : Byte) (s : State) : Out :=
  .next (s.begin.hostCell .serviceCmd (mkWord high 1))

/-- SALES_ON (R164). -/
def execSalesOn (high : Byte) (s : State) : Out :=
  .next (s.begin.hostCell .serviceCmd (mkWord high 2))

/-- CLEAR_STOP (R164). -/
def execClearStop (condition : Byte) (s : State) : Out :=
  .next (s.begin.hostCell .serviceCmd (mkWord condition 3))

/-- SERVICE_CMD_UNKNOWN (R164). -/
def execServiceCmdUnknown (value : Word) (s : State) : Out :=
  .next (s.begin.hostCell .serviceCmd value)

/-- AUTHORISE (R143). -/
def execAuthorise (s : State) : Out := .next (s.begin.hostCell .collectCmd 1)

/-- CLEAR_INTRUSION (R145). -/
def execClearIntrusion (s : State) : Out := .next (s.begin.hostCell .collectCmd 2)

/-- COLLECT_CMD_UNKNOWN (R143). -/
def execCollectCmdUnknown (value : Word) (s : State) : Out :=
  .next (s.begin.hostCell .collectCmd value)

/-- INSTALL_BEGIN (R76). -/
def execInstallBegin (s : State) : Out := .next (s.begin.hostCell .bookCmd 1)

/-- INSTALL_END (R80). -/
def execInstallEnd (s : State) : Out := .next (s.begin.hostCell .bookCmd 2)

/-- INSTALL_ABORT (R81). -/
def execInstallAbort (s : State) : Out := .next (s.begin.hostCell .bookCmd 3)

/-- CANCEL_PENDING (R81). -/
def execCancelPending (s : State) : Out := .next (s.begin.hostCell .bookCmd 4)

/-- BOOK_CMD_UNKNOWN (R75). -/
def execBookCmdUnknown (value : Word) (s : State) : Out := .next (s.begin.hostCell .bookCmd value)

/-- POP (R157). -/
def execPop (s : State) : Out := .next (s.begin.hostCell .faultCmd 1)

/-- FAULT_CMD_UNKNOWN (R157). -/
def execFaultCmdUnknown (value : Word) (s : State) : Out := .next (s.begin.hostCell .faultCmd value)

/-- REPORT (R158). -/
def execReport (code : Word) (s : State) : Out := .next (s.begin.hostCell .reportCmd code)

/-- REPORT_BAD_CODE (R158). -/
def execReportBadCode (value : Word) (s : State) : Out := .next (s.begin.hostCell .reportCmd value)

/-- ATTN_EOS (R171). -/
def execAttnEos (value : Word) (s : State) : Out := .next (s.begin.hostCell .attnEos value)

/-- ATTN_ENABLE (R172). -/
def execAttnEnable (value : Word) (s : State) : Out := .next (s.begin.hostCell .attnEnable value)

/-- ATTN_TAKE (R170). -/
def execAttnTake (hi lo : Bool) (s : State) : Out :=
  .next (s.begin.hostRead (s.cellAddr .attnTake) hi lo)

/-- JEXPORT (R131). -/
def execJexport (high : Word) (s : State) : Out := .next (s.begin.hostCell .jexportHigh high)

/-- PEXPORT (R148). -/
def execPexport (mark : Word) (s : State) : Out := .next (s.begin.hostCell .pexport mark)

/-- AMEND_TAIL (R109). -/
def execAmendTail (tail : Word) (s : State) : Out := .next (s.begin.hostCell .amendTail tail)

end Sys2Proof.Machine
end

