-- ==== Sys2Proof/Machine/EventRows.lean ====
section
/-! DEFINITION. The meanings of the rows that are the units' own events. An event whose condition does
not hold changes nothing but the record of what was driven (log 2). -/

namespace Sys2Proof.Machine

/-- COMMIT_WAIT_END (R8). -/
def execCommitWaitEnd (s : State) : Out := .next (s.rowTo s.begin.commitWaitEnd [])

/-- The number of words of the group at the front of the ready order. -/
def State.frontWords (s : State) : Nat :=
  match s.path.ready with
  | .group g :: _ => g.places.length
  | _ => 0

/-- GROUP_WRITE (R36), with the cash writer's step-done word where one follows (R134). -/
def execGroupWrite (s : State) : Out :=
  let t := s.begin.groupWrite
  .next (s.rowTo t (t.engineIf .groupWriter) s.frontWords)

/-- IMAGE_REWRITE (R36). -/
def execImageRewrite (s : State) : Out :=
  .next (s.begin.imageRewrite.served (s.begin.imageRewrite.engineIf .groupWriter))

/-- MEMORY_PORT_GRANT (R42). -/
def execMemoryPortGrant (hostWaits : Bool) (s : State) : Out := .next (s.begin.portGrant hostWaits)

/-- STALE_READ (R39). -/
def execStaleRead (s : State) : Out := .next (s.begin.staleRead)

/-- BAND_STEP (R55). -/
def execBandStep (s : State) : Out := .next (s.begin.bandStep)

/-- PRICE_RUN_COMPLETE (R64). -/
def execPriceRunComplete (s : State) : Out := .next (s.begin.priceRunComplete)

/-- The permit unit, if the roll is read. -/
def rollReads (b : Bool) : List Engine := if b then [.permitUnit] else []

/-- SEARCH_SEEK (R98). -/
def execSearchSeek (s : State) : Out := .next (s.begin.searchSeek.served (rollReads s.seeks))

/-- SEARCH_SCAN (R99). -/
def execSearchScan (s : State) : Out := .next (s.begin.searchScan.served (rollReads s.scans))

/-- COMMIT_PERMIT_STEP (R105), with the cash writer's intent where a close follows (R132). -/
def execCommitPermitStep (s : State) : Out :=
  .next (s.rowTo s.begin.commitPermitStep (rollReads s.rechecks))

/-- An amendment row: every word it reads or writes is the permit unit's (R93). -/
def State.amendServed (s : State) (names : Nat → Bool) : Out :=
  let t := s.begin.amendRow names
  .next (t.served (t.engineIf .permitUnit))

/-- ADD (R113). -/
def execAdd (s : State) : Out := s.amendServed (· == 1)

/-- REPLACE (R114). -/
def execReplace (s : State) : Out := s.amendServed (· == 2)

/-- REVOKE (R115). -/
def execRevoke (s : State) : Out := s.amendServed (· == 3)

/-- DELETE (R116). -/
def execDelete (s : State) : Out := s.amendServed (· == 4)

/-- ROLL_CLEAR (R117). -/
def execRollClear (s : State) : Out := s.amendServed (· == 5)

/-- BAD_OP (R111). -/
def execBadOp (s : State) : Out := s.amendServed fun op => outside op 1 5

/-- SCRUB_STEP (R121). -/
def execScrubStep (s : State) : Out := .next (s.begin.scrubStep.served (rollReads s.scrubs))

/-- CLOSE_STEP (R133). -/
def execCloseStep (s : State) : Out := .next (s.rowTo s.begin.closeStep [])

/-- PERIOD_CLOSE (R146). -/
def execPeriodClose (s : State) : Out := .next (s.rowTo s.begin.takePeriodClose [])

/-- The tariff unit, if a book is read. -/
def bookReads (b : Bool) : List Engine := if b then [.tariffUnit] else []

/-- CHANGEOVER (R84). -/
def execChangeover (s : State) : Out :=
  .next (s.rowTo s.begin.changeover (bookReads (s.bookWorks && s.tariff.change == some .toFill)))

/-- DAILY_CHECK (R85). -/
def execDailyCheck (s : State) : Out :=
  .next (s.rowTo s.begin.dailyCheck (bookReads (s.checkRuns && s.tariff.inForce.isSome)))

end Sys2Proof.Machine
end

