-- ==== Sys2Proof/Machine/StartUp.lean ====
section
/-! DEFINITION. The start-up procedure, the end of start-up, and the resets
(R44 to R47, R87, R178 to R183, R186). -/

namespace Sys2Proof.Machine

/-! ## Step 1: the configuration (R179, R186) -/

/-- The words of the configuration record. -/
def State.configWords (s : State) : List Word := s.words configAddr 128

/-- The window map of the record. -/
def mapOf (ws : List Word) : WindowMap :=
  { sale := (dwordOf ws 1).toNat, control := (dwordOf ws 3).toNat, cash := (dwordOf ws 5).toNat
    roll := (dwordOf ws 7).toNat, book := (dwordOf ws 9).toNat }

/-- The values of the record that are handed out. -/
def cfgOf (ws : List Word) : CfgRegs :=
  { discardMs := (wordOf ws 25).toNat, debounceMs := (wordOf ws 24).toNat
    flashWaitMs := (wordOf ws 26).toNat, denoms := eightOf ws 11, escrowCap := (wordOf ws 19).toNat
    capacity := (wordOf ws 20).toNat, nearPercent := (wordOf ws 21).toNat
    authTime := (wordOf ws 23).toNat, idleLimit := (wordOf ws 22).toNat
    probeLimit := (wordOf ws 27).toNat, zone := loByte (wordOf ws 28) }

/-- The ranges of R179. -/
def CfgRegs.inRange (c : CfgRegs) : Bool :=
  !outside c.escrowCap 1 60 && !outside c.capacity 100 8000 && !outside c.nearPercent 50 99
    && !outside c.idleLimit 1 15 && !outside c.authTime 1 15 && !outside c.debounceMs 5 255
    && !outside c.discardMs 1 255 && !outside c.flashWaitMs 1 255 && !outside c.probeLimit 1 8
    && c.zone != 0

/-- The record is good (R179). -/
def configGood (ws : List Word) : Bool :=
  wordOf ws 0 == 0x4842 && checkGood ws && (mapOf ws).placed && (cfgOf ws).inRange

/-- A class's route by its rule: fixed STOP, any, or LOG or ATTEND (R151, R152). -/
def FaultClass.effective (c : FaultClass) (code : Byte) : Route :=
  match c with
  | .tariffBad | .journalFull | .boxFull | .intrusion | .boxAbsent => .stop
  | .rollSeek | .machine => if code = 0 then .log else if code = 2 then .stop else .attend
  | .bookRejected | .flashTimeout | .recordCrc | .rollFull | .periodRingFull | .boxNear | .staleRead
  | .windowViolation | .recovery => if code = 0 then .log else .attend

/-- The classes in code order. -/
def FaultClass.list : List FaultClass :=
  [.tariffBad, .bookRejected, .flashTimeout, .rollSeek, .recordCrc, .rollFull, .journalFull,
   .periodRingFull, .boxNear, .boxFull, .intrusion, .boxAbsent, .staleRead, .windowViolation,
   .recovery, .machine]

/-- The effective route table (R152). -/
def routesOf (ws : List Word) : List RouteEntry :=
  FaultClass.list.map fun c =>
    let w := wordOf ws (29 + c.code)
    { route := c.effective (loByte w), delegate := hiByte w != 0 }

/-- The images written when the configuration has been loaded (R152, R166), and STOP_SET, whose set the reset
has emptied (R160, log 37). -/
def startImages : List Image :=
  [.routes, .notice .sale, .notice .fault, .notice .cash, .notice .book, .notice .roll, .peek, .take,
   .stopSet]

/-- A line begins to settle (R136). -/
def LineRegs.begin (r : LineRegs) (debounce : Nat) : LineRegs := { r with timer := some debounce }

/-- A good record is handed out (R179). -/
def State.takeConfig (s : State) (ws : List Word) : State :=
  let c := cfgOf ws
  let base := wordOf ws 29 &&& 0xFFF0
  let t := { s with
    path.map := some (mapOf ws)
    cfg := c
    fault.routes := routesOf ws
    fault.vectorBase := base
    fault.lastTake := base + 14
    lines := { door := s.lines.door.begin c.debounceMs, box := s.lines.box.begin c.debounceMs
               key := s.lines.key.begin c.debounceMs, settleLimit := some 1000 } }
  startImages.foldl State.rewrite t

/-- A bad record puts the path unit in TRANSPARENT (R46, R174, R179). -/
def State.goTransparent (s : State) : State :=
  { s with path.mode := .transparent, time.timeSet := false, start.phase := .done }

/-! ## Step 4: the closing intent (R180) -/

/-- RECOVERY with its detail. -/
def State.recovery (s : State) (detail : Nat) : State := s.raise .recovery (codeWord detail)

/-- The words of the closing intent. -/
def State.intentWords (s : State) : List Word := s.words (s.at .cash intentBase) 128

/-- The close an armed intent holds (a bucket or slot beyond its range is log 32's). -/
def closeOf (ws : List Word) : Close :=
  { kind := if wordOf ws 4 = 1 then .commit else if wordOf ws 4 = 2 then .void else .period
    number := dwordOf ws 2
    journal := (ws.drop 8).take 24, period := (ws.drop 32).take 64, box := (ws.drop 96).take 12
    permit :=
      if wordOf ws 5 = 0xFFFF then none
      else some { bucket := (wordOf ws 5).setWidth 9, slot := (wordOf ws 6).toNat % 8
                  image := (ws.drop 112).take 16 }
    stepDone := 0, saleWritten := false, tenderWritten := false }

/-- SALE_RESP and TENDER_RESP as the replay of step 7 writes them (R180), in this order (DESIGN CHOICE, log 45). -/
def State.putSaleRecord (s : State) (c : Close) : State :=
  let commit := c.kind == .commit
  let refund := wordOf c.journal 16
  let tendered := sum16 ((wordOf c.journal 12).toNat + (wordOf c.journal 13).toNat)
  let sale :=
    [if commit then 16 else s.cellWord .sale 0,
     codeWord (if commit then SaleState.closed.code else SaleState.void.code)]
      ++ dwords c.number
      ++ [refund, wordOf c.journal 3,
          commitFlagsOf c.permit.isSome refund (wordOf c.journal 15) commit]
  let tender := [s.cellWord .sale 4, s.cellWord .sale 5, tendered, 0, 0] ++ List.replicate 8 0
  (s.putAll (s.writesWith .saleResp sale)).putAll (s.writesWith .tenderResp tender)

/-- One step of a sale's close written again, after step-done value `n` (R180). -/
def State.replaySale (s : State) (c : Close) (n : Nat) : State :=
  if n < 4 then (s.putCloseRecord c n).putStepDone (n + 1)
  else if n = 4 then (s.putSaleRecord c).putStepDone 5
  else s.putCloseEnd c.number

/-- The step-done values from `a` to below `b`. -/
def stepsFrom (a b : Nat) : List Nat := (List.range b).filter fun n => decide (a ≤ n)

/-- The intent state NONE. -/
def State.disarm (s : State) : State := s.putCell .cash intentBase 0

/-- Step 4 of start-up (R180). The low byte of RECOVERY's detail is that of the step-done word as read (log 27). -/
def State.replayIntent (s : State) : State :=
  let ws := s.intentWords
  let read := (wordOf ws 1).toNat
  let c := closeOf ws
  if wordOf ws 0 ≠ 1 then (if wordOf ws 0 = 0 then s else s.disarm)
  else
    match (wordOf ws 4).toNat with
    | 3 =>
      let n := if 4 < read then 0 else read
      let t :=
        if n = 4 then s.disarm
        else (stepsFrom n 4).foldl (fun u k => u.putPeriodStep c.number c.period c.box k) s
      t.recovery (0x300 + read % 256)
    | kind =>
      if kind = 1 ∨ kind = 2 then
        let n := if 6 < read then 0 else read
        let t := if n = 6 then s.disarm else (stepsFrom n 6).foldl (fun u k => u.replaySale c k) s
        t.recovery (0x100 * kind + read % 256)
      else s.disarm.recovery 0x800

/-! ## Steps 5 and 6: the cash records and the sale (R181) -/

/-- The open period is reloaded; a bad check word is written afresh. -/
def State.reloadPeriod (s : State) : State :=
  let ws := s.words (s.at .cash periodBase) 64
  let t := { s with cash.period := PeriodRecord.ofWords ws }
  if checkGood ws then t
  else (t.putCell .cash (periodBase + 63) (crc (ws.take 63))).recovery 0x500

/-- The tally that the open period's vaulted counts give. -/
def State.tallyOfVaulted (s : State) : Tally :=
  let v := s.cash.period.vaulted
  { counts := v, coins := sum16 v.total, value := sum32 (penceOf v s.cfg.denoms) }

/-- The box tally is reloaded, or rebuilt from the vaulted counts; the near latch follows. -/
def State.reloadTally (s : State) : State :=
  let ws := s.words (s.at .cash 0) 12
  let t :=
    if checkGood ws then { s with cash.tally := Tally.ofWords ws }
    else ({ s with cash.tally := s.tallyOfVaulted }.putRun (s.at .cash 0)
      s.tallyOfVaulted.words).recovery 0x600
  { t with cash.nearLatch := decide (t.cfg.nearThreshold ≤ t.cash.tally.coins.toNat) }

/-- The indices are loaded from their cells. -/
def State.reloadIndices (s : State) : State :=
  { s with
    cash.nextSeq := s.cellDWord .cash 12
    cash.exportMark := s.cellDWord .cash 14
    cash.pnext := s.cellWord .cash 17
    cash.pexport := s.cellWord .cash 18 }

/-- The journal indices are sound. -/
def CashUnit.journalSound (c : CashUnit) : Bool :=
  decide (1 ≤ c.nextSeq.toNat) && decide (c.exportMark.toNat < c.nextSeq.toNat)
    && decide (c.nextSeq.toNat - c.exportMark.toNat ≤ 513)

/-- The period indices are sound. -/
def CashUnit.periodSound (c : CashUnit) : Bool :=
  decide (1 ≤ c.pnext.toNat) && decide (c.pnext.toNat = c.period.number.toNat)
    && decide (c.pexport.toNat < c.pnext.toNat) && decide (c.pnext.toNat - c.pexport.toNat ≤ 17)

/-- Journal indices that are not sound are set afresh. -/
def State.mendJournal (s : State) : State :=
  if s.cash.journalSound then s
  else
    (({ s with cash.nextSeq := 1, cash.exportMark := 0 }.putDWord (s.at .cash 12) 1).putDWord
      (s.at .cash 14) 0).recovery 0x900

/-- Period indices that are not sound are set afresh, with an empty box: the period's record, the tally, then the
indices (DESIGN CHOICE, log 52). -/
def State.mendPeriods (s : State) : State :=
  if s.cash.periodSound then s
  else
    let p := PeriodRecord.fresh 1 s.minuteOrNone
    let t := { s with cash.period := p, cash.pnext := 1, cash.pexport := 0, cash.tally := Tally.zero
                      cash.nearLatch := false }
    let u := (t.putRun (t.at .cash periodBase) p.words).putRun (t.at .cash 0) Tally.zero.words
    ((u.putCell .cash 17 1).putCell .cash 18 0).recovery 0x900

/-- The reload of the cash unit's records (R181). -/
def State.reloadCash (s : State) : State :=
  s.reloadPeriod.reloadTally.reloadIndices.mendJournal.mendPeriods

/-- The reservation, with JRESERVED rewritten if it differs (R181). Where its word goes among the recovery's other
writes is its callers' (DESIGN CHOICE, log 54). -/
def State.reserveTo (s : State) (b : Bool) : State :=
  let t := { s with cash.reserved := b }
  if s.cellWord .cash 16 = flagWord b then t else t.putCell .cash 16 (flagWord b)

/-- The words of the sale's cells that are not context are taken from memory (log 26). -/
def State.loadSaleCells (s : State) : State :=
  { s with
    sale.number := s.cellDWord .sale 2
    sale.saleCmd := s.cellWord .sale 0
    sale.coinIn := s.cellWord .sale 4
    sale.cardIn := s.cellWord .sale 5
    sale.refundDue := s.cellWord .sale 17
    sale.commitFlags := s.cellWord .sale 25
    sale.inhibit := s.cellWord .sale 18
    permit.permitReq := s.cellWord .sale 14 }

/-- The context found CLOSED or VOID. -/
def State.foundEnded (s : State) (state : SaleState) : State :=
  { s with sale.state := state
           sale.voidReason := VoidReason.ofWord (s.cellWord .sale 22) }.reserveTo false

/-- The ESCROW cells. -/
def State.escrowCells (s : State) : Eight Word :=
  #v[s.cellWord .sale 26, s.cellWord .sale 27, s.cellWord .sale 28, s.cellWord .sale 29,
     s.cellWord .sale 30, s.cellWord .sale 31, s.cellWord .cash 24, s.cellWord .cash 25]

/-- The PRICE cells. -/
def State.priceCells (s : State) : PriceResult :=
  { charge := s.cellWord .sale 7, expiry := s.cellDWord .sale 8, flags := s.cellWord .sale 10
    bandInfo := s.cellWord .sale 11, bookId := s.cellWord .sale 19, pricedAt := s.cellDWord .sale 20
    overpay := s.cellWord .sale 23 }

/-- The permit in use of a sale found OPEN, when PERMIT_REQ reads VALID (R181; log 26). The category and the discount
are the low bytes of their cells (DESIGN CHOICE, log 59). -/
def State.permitCells (s : State) : Option PermitInUse :=
  if s.cellWord .sale 14 = codeWord Verdict.valid.code then
    some { number := s.cellDWord .sale 12, category := loByte (s.cellWord .sale 16)
           discount := loByte (s.cellWord .sale 15), bucket := 0, slot := 0 }
  else none

/-- A sale found OPEN is set up from the sale record. -/
def State.setUpOpen (s : State) : State :=
  let escrow := s.escrowCells
  let coins := penceOf escrow s.cfg.denoms
  { s with
    sale.state := .opened
    sale.escrow := escrow
    sale.lateTotal := s.cellWord .sale 24
    sale.coinPence := sum16 coins
    sale.cardPence := BitVec.ofNat 16 ((s.cellWord .sale 6).toNat - coins)
    sale.price := s.priceCells
    sale.permit := s.permitCells
    sale.verdict := if s.permitCells.isSome then .valid else .none }

/-- A sale found OPEN is voided with reason RESTART (R181); JRESERVED is rewritten before the void's intent (DESIGN
CHOICE, log 54), and RECOVERY is raised after the void has begun and after SALE_VOIDED (DESIGN CHOICE, log 45). -/
def State.voidRestart (s : State) : State :=
  let t := (s.setUpOpen.reserveTo true).beginVoid .restart
  (t.raiseSource .sale SaleNotice.saleVoided.word).recovery 0x400

/-- A sale taken as OPEN (R181). -/
def State.foundOpen (s : State) : State :=
  if s.sale.number = s.cash.nextSeq then s.voidRestart
  else
    let t := (s.reserveTo false).clearSale
    { t with sale.number := t.cash.nextSeq - 1 }.recovery 0x900

/-- The journal entry of the sale in the record is whole, with its kind (R181). -/
def State.entryKind (s : State) : Option Word :=
  let ws := s.words (s.journalAddr s.sale.number) 24
  if dwordOf ws 0 = s.sale.number ∧ checkGood ws = true then some (wordOf ws 2) else none

/-- A sale found COMMITTING, VOIDING or in no state: its journal entry decides (R181; log 32); the void reason is
the cell's (DESIGN CHOICE, log 43), and SALE_STATE is rewritten before JRESERVED (DESIGN CHOICE, log 54). -/
def State.foundBroken (s : State) : State :=
  match s.entryKind with
  | some kind =>
    if kind = 1 then
      ((s.putCell .sale 1 (codeWord SaleState.closed.code)).foundEnded .closed).recovery 0x700
    else if kind = 2 then
      ((s.putCell .sale 1 (codeWord SaleState.void.code)).foundEnded .void).recovery 0x700
    else s.foundOpen
  | none => s.foundOpen

/-- Steps 5 and 6 of start-up (R181). -/
def State.recoverSale (s : State) : State :=
  let t := s.reloadCash.loadSaleCells
  match (t.cellWord .sale 1).toNat with
  | 0 => t.reserveTo false
  | 1 => t.foundOpen
  | 4 => t.foundEnded .closed
  | 5 => t.foundEnded .void
  | _ => t.foundBroken

/-! ## Steps 7 and 8: stop set and compartment (R182) -/

/-- The cause of a condition is present (R182). -/
def State.causePresent (s : State) (c : Condition) : Bool :=
  match c with
  | .timeUnset => !s.time.timeSet
  | .tariffBad => s.tariff.cache.isNone
  | .journalFull => s.freeSlots == 0
  | .boxFull => decide (s.cfg.capacity ≤ s.cash.tally.coins.toNat)
  | .boxAbsent => !s.lines.box.asserted
  | .intrusion => s.cellWord .cash 20 != 0
  | .rollDown => !s.permit.headerGood
  | .doorOpen | .machineStop | .salesOff => false

/-- Step 7: each condition whose cause is present is added (R182). -/
def State.rebuildStops (s : State) : State :=
  Condition.list.foldl (fun t c => if t.causePresent c then t.require c else t) s

/-- What the mirror of the compartment state reads as; `none` for a value not in the table (R185). -/
def mirrorOf (w : Word) : Option Compartment :=
  match w.toNat with
  | 0 => some .sealed
  | 1 => some .authorised
  | 2 => some .opened
  | 3 => some .boxOut
  | 4 => some .refilled
  | 5 => some .sealedEmpty
  | 6 => some .breached
  | _ => none

/-- A row of step 8's table: the state taken, and what else follows. -/
structure Derived where
  state : Compartment
  /-- DOOR_OPEN is added. -/
  door : Bool
  /-- A period close is due. -/
  due : Bool
  /-- INTRUSION is raised with this detail. -/
  intrusion : Option Word
deriving DecidableEq, Repr

/-- Step 8's table (R182). -/
def derive (mirror : Option Compartment) (door box : Bool) : Derived :=
  let row (c : Compartment) (open_ due : Bool) (i : Option Word) : Derived :=
    { state := c, door := open_, due := due, intrusion := i }
  let shut : Compartment := if box then .sealed else .sealedEmpty
  if door then
    match mirror with
    | some .opened => if box then row .opened true false none else row .boxOut true true none
    | some .boxOut | some .refilled =>
      if box then row .refilled true false none else row .boxOut true false none
    | some .breached => row .breached false false none
    | _ => row .breached false false (some 1)
  else
    match mirror with
    | some .opened => if box then row .sealed false false none else row .sealedEmpty false true none
    | some .breached => row shut false false (some 2)
    | _ => row shut false false none

/-- Step 8: the compartment state, with its further effects; the period close is left waiting (R182), so the
forced entry counts in the period that it closes (DESIGN CHOICE, log 44). The mirrors are written before the forced
entry's count (DESIGN CHOICE, log 50). -/
def State.deriveCompartment (s : State) : State :=
  let d := derive (mirrorOf (s.cellWord .cash 19)) s.lines.door.asserted s.lines.box.asserted
  let flag := s.cellWord .cash 20 != 0 || d.state == .breached
  let due := d.due || s.cellWord .cash 22 != 0
  let t := if due then s.periodDue else s
  let u := { t with cash.compartment := d.state, cash.intrusion := flag, cash.authCount := 0 }.putMirrors
  let v := if d.door then u.require .doorOpen else u
  let w :=
    match d.intrusion with
    | some detail =>
      let x := v.raise .intrusion detail
      if detail = 1 then x.applyForcedEntry else x
    | none => v
  w.rewrite .lines

/-! ## The order of the steps (R179 to R183, log 24) -/

/-- The procedure has come to a point. -/
def State.phaseTo (s : State) (p : StartPhase) : State := { s with start.phase := p }

/-- Steps 9 and 10. -/
def State.stepNine (s : State) : State := s.resumeQueue.phaseTo .waitOwed

/-- Steps 7 and 8, with the lines settled; a period close is taken at once. -/
def State.stepSeven (s : State) : State :=
  let t := s.rebuildStops.deriveCompartment
  let u := t.takePeriodClose
  if u.cash.close.isSome then u.phaseTo .waitPeriod else u.stepNine

/-- The procedure goes on to step 7, which waits for the lines. -/
def State.toLines (s : State) : State :=
  if s.lines.settled then s.stepSeven else s.phaseTo .waitLines

/-- Steps 3 to 6. -/
def State.stepThree (s : State) : State :=
  let t := s.checkRollHeader.replayIntent.recoverSale
  if t.cash.close.isSome then t.phaseTo .waitClose else t.toLines

/-- Step 2's last part: slots that read VALID are validated (R87). -/
def State.settlePendings (s : State) : List BookSlot → State
  | [] => s.stepThree
  | slot :: rest =>
    if s.slotState slot = .valid then
      match s.validate slot true with
      | .passes _ =>
        { s with tariff.pendingSlot := some slot, tariff.due := false }.settlePendings rest
      | .fails reason =>
        (s.markSlot slot .rejected (.startRejectPending (codeWord reason))).phaseTo
          (.books (.pendings rest))
    else s.settlePendings rest

/-- Step 2's third part: the cache is filled (R87). -/
def State.settleCache (s : State) : State := s.fillCache.settlePendings [.a, .b]

/-- The slot in force of two ACTIVE slots: the later effective minute, or slot A (R87). -/
def State.laterSlot (s : State) : BookSlot :=
  if (s.effectiveMinute .a).toNat < (s.effectiveMinute .b).toNat then .b else .a

/-- Step 2's second part: the slot in force (R87). -/
def State.settleInForce (s : State) : State :=
  match s.slotState .a == .active, s.slotState .b == .active with
  | true, true =>
    let f := s.laterSlot
    ({ s with tariff.inForce := some f }.markSlot f.other .retired (.startRetire f.other)).phaseTo
      (.books .retiring)
  | true, false => { s with tariff.inForce := some .a }.settleCache
  | false, true => { s with tariff.inForce := some .b }.settleCache
  | false, false => (s.raise .tariffBad 18).settleCache

/-- Step 2's first part: slots that read WRITING or LOADED are marked REJECTED (R87), in the order given: A and then
B (DESIGN CHOICE, log 25). -/
def State.settleOpenings (s : State) : List BookSlot → State
  | [] => s.settleInForce
  | slot :: rest =>
    if s.slotState slot = .writing ∨ s.slotState slot = .loaded then
      (s.markSlot slot .rejected .startReject).phaseTo (.books (.rejecting rest))
    else s.settleOpenings rest

/-- Step 1: the configuration is read, and step 2 begins (R179). -/
def State.loadConfig (s : State) : State :=
  let ws := s.configWords
  let t := { s with start.fbusyLimit := none }
  if configGood ws then (t.takeConfig ws).settleOpenings [.a, .b] else t.goTransparent

/-- START_UP (R178, R179): the procedure begins when a held reset ends. -/
def State.startUp (s : State) : State :=
  if s.start.phase = .held then
    if s.flash.fbusy then { s with start.fbusyLimit := some 1000 }.phaseTo .waitFbusy
    else s.loadConfig
  else s

/-- FBUSY_WAIT_LIMIT (R179). -/
def State.fbusyWaitLimit (s : State) : State :=
  if s.start.phase = .waitFbusy ∧ s.start.fbusyLimit = some 0 then s.loadConfig else s

/-- Step 2 goes on after a marking has ended (R87). -/
def State.booksGoOn (s : State) : State :=
  if s.tariff.prog.job.isSome then s
  else
    match s.start.phase with
    | .books (.rejecting rest) => s.settleOpenings rest
    | .books .retiring => s.settleCache
    | .books (.pendings rest) => s.settlePendings rest
    | .held | .waitFbusy | .waitClose | .waitLines | .waitPeriod | .waitOwed | .done => s

/-- The procedure goes on after a close has ended (R181, R182). -/
def State.closeGoOn (s : State) : State :=
  if s.cash.close.isSome then s
  else
    match s.start.phase with
    | .waitClose => s.toLines
    | .waitPeriod => s.stepNine
    | .held | .waitFbusy | .books _ | .waitLines | .waitOwed | .done => s

/-- The procedure goes on once the lines have settled (R182). -/
def State.linesGoOn (s : State) : State :=
  if s.start.phase = .waitLines ∧ s.lines.settled = true then s.stepSeven else s

/-! ## The rows that carry start-up on (log 24) -/

/-- CLOSE_END (R134), after which a start-up that waited for the close goes on (R181); nothing with no close in hand
(log 2). -/
def State.closeEndOn (s : State) : State :=
  if s.cash.close.isSome then s.closeEnd.closeGoOn else s

/-- PERIOD_CLOSE_STEP (R147), after which a start-up that waited for the close goes on (R182); nothing with no close
in hand (log 2). -/
def State.periodStepOn (s : State) : State :=
  if s.cash.close.isSome then s.periodCloseStep.closeGoOn else s

/-- FLASH_OP_END (R74), after which start-up step 2 goes on (R87); nothing with no operation to end (log 2). -/
def State.flashEndOn (s : State) : State :=
  if s.jobBusy.isSome then s.flashOpEnd.booksGoOn else s

/-- FLASH_WAIT_LIMIT (R74), after which start-up step 2 goes on (R87); nothing with no operation at its limit
(log 2). -/
def State.flashLimitOn (s : State) (left : List Word) : State :=
  if s.jobLate.isSome then (s.flashWaitLimit left).booksGoOn else s

/-- FBUSY_DEASSERTED (R74, R179): the programmer's command writes, or start-up step 1, need not wait. -/
def State.fbusyOn (s : State) (left : List Word) : State :=
  if s.fbusyAlone then
    let t := s.fbusyFree left
    if s.start.phase = .waitFbusy then t.loadConfig else t
  else s

/-- LINE_SETTLE_LIMIT (R182). -/
def State.settleLimitOn (s : State) : State :=
  if s.lines.settleLimit = some 0 then s.settleAll.linesGoOn else s

/-- The line has held one level for a debounce interval without a debounced level (R136). -/
def State.lineReady (s : State) (l : Line) : Bool :=
  s.monitors && (s.lines.get l).level.isNone && (s.lines.get l).timer == some 0

/-- LINE_SETTLED (R136). -/
def State.lineSettledOn (s : State) (l : Line) : State :=
  if s.lineReady l then (s.settleLine l).linesGoOn else s

/-- PATH_RUNNING (R45, R183). -/
def State.pathRunning (s : State) : State :=
  if s.start.phase = .waitOwed ∧ s.path.owed = [] then
    { s with path.mode := .running, start.phase := .done }.amendKick
  else s

end Sys2Proof.Machine
end

