-- ==== Sys2Proof/Machine/Resets.lean ====
section
/-! DEFINITION. Delivered line changes, the minute mark, work cut short and the resets
(R47, R136, R175, R178). -/

namespace Sys2Proof.Machine

/-! ## A delivered line change (R136, R149) -/

/-- The units that take a change: the cash unit, and the tariff unit a withdrawal of KEY. -/
def State.takeLine (s : State) (l : Line) (level : Bool) : State :=
  match l with
  | .door | .box => s.compartmentChange l level
  | .key => if level then s else s.keyWithdrawn

/-- What the units do with a change taken before start-up ends (R137, log 15): a box insertion removes
BOX_ABSENT, the compartment state ignores it, and no session is OPEN that a withdrawal of KEY could abort. -/
def State.takeLineEarly (s : State) (l : Line) (level : Bool) : State :=
  match l with
  | .box => if level then s.removeCondition .boxAbsent else s
  | .door | .key => s

/-- LINE_CHANGE (R136): a settled line's timer has run out, the debounced level takes the raw level, and the
change is taken by the units; the CASH source is raised and LINES follows (R149), in this order in the ready order
(DESIGN CHOICE, log 46). In TRANSPARENT the monitor delivers nothing. -/
def State.lineChange (s : State) (l : Line) : State :=
  let r := s.lines.get l
  if s.path.mode ≠ .transparent ∧ r.timer = some 0 ∧ r.level.isSome = true then
    let t := { s with lines := s.lines.set l r.taken }
    let u := if s.path.mode = .running then t.takeLine l r.raw else t.takeLineEarly l r.raw
    (u.raiseCash true).linesIfMoved s.shownLevels
  else s

/-! ## The minute mark (R175, R177) -/

/-- A mark whose minute of day is 0 is a day rollover: the tariff unit's check is due (R85, R177); one that
waits already takes in the second (DESIGN CHOICE, log 40). -/
def State.rollover (s : State) : State :=
  if s.time.minute.toNat % 1440 = 0 then { s with tariff.checkDue := true } else s

/-- The mark is delivered, in RUNNING only, in one order (R175, log 17). -/
def State.deliverMark (s : State) : State :=
  if s.path.mode = .running then s.rollover.saleMark.tariffMark.scrubMark.authMark else s

/-- MINUTE_MARK (R175): an edge on MARK. -/
def State.minuteMark (s : State) : State := if s.markCounts then s.nextMinute.deliverMark else s

/-- The next mark takes the idle count of an OPEN sale to the limit (R19). -/
def State.idleEnds (s : State) : Bool :=
  s.markCounts && s.path.mode == .running && s.sale.state == .opened
    && s.sale.idle + 1 == s.cfg.idleLimit

/-- The next mark takes the authorisation count to 0 (R144). -/
def State.authEnds (s : State) : Bool :=
  s.markCounts && s.path.mode == .running && s.cash.compartment == .authorised
    && decide (s.cash.authCount ≤ 1)

/-! ## Work and resets (R47, R178) -/

/-- The amendment in hand, whatever its operation. -/
def State.amendment (s : State) : State := s.amendRow fun _ => true

/-- A piece of work, done whole. -/
def State.doWork (s : State) : Work → State
  | .host a => s.host a
  | .groupWrite => s.groupWrite
  | .imageRewrite => s.imageRewrite
  | .commitWaitEnd => s.commitWaitEnd
  | .commitPermitStep => s.commitPermitStep
  | .amendment => s.amendment
  | .closeStep => s.closeStep
  | .closeEnd => s.closeEndOn
  | .periodClose => s.takePeriodClose
  | .periodCloseStep => s.periodStepOn
  | .lineChange l => s.lineChange l
  | .minuteMark => s.minuteMark
  | .changeover => s.changeover
  | .dailyCheck => s.dailyCheck
  | .startUp => s.startUp
  | .flashOpEnd => s.flashEndOn
  | .flashWaitLimit left => s.flashLimitOn left
  | .fbusyWaitLimit => s.fbusyWaitLimit
  | .fbusyDeasserted left => s.fbusyOn left
  | .lineSettled l => s.lineSettledOn l
  | .lineSettleLimit => s.settleLimitOn

/-- Memory with word writes made in order. -/
def Memory.writeAll (m : Memory) : List (Nat × Word) → Memory
  | [] => m
  | (a, w) :: rest => Memory.writeAll (m.writeWord a w) rest

/-- The word writes that reach memory before a reset cuts the work short (R47, log 12). -/
def State.cutWrites (s : State) : Cut → List (Nat × Word)
  | .nothing => []
  | .during work n => (s.doWork work).driven.reverse.take n

/-- The part as the event from outside leaves it with which the work cut short began: what the flash itself has
done (R47, R74), or the minute that an edge on MARK has advanced (R175). -/
def State.afterEvent (s : State) : Cut → State
  | .during .flashOpEnd _ =>
    match s.jobBusy with
    | some j => s.flashDone j.op
    | none => s
  | .during (.flashWaitLimit left) _ => if s.jobLate.isSome then s.flashLeft left else s
  | .during (.fbusyDeasserted left) _ => if s.fbusyAlone then (s.flashLeft left).fbusyOff else s
  | .during .minuteMark _ => if s.markCounts then s.nextMinute else s
  | .during _ _ | .nothing => s

/-- The state that a reset leaves: on-chip reset values with the timebase given; memory, the flash device,
the raw lines and the queue are kept (R178). -/
def State.resetWith (s : State) (t : Timebase) (cut : Cut) : State :=
  { State.reset with
    time := t
    lines := { door := LineRegs.reset s.lines.door.raw, box := LineRegs.reset s.lines.box.raw
               key := LineRegs.reset s.lines.key.raw, settleLimit := none }
    flash := (s.afterEvent cut).flash
    mem := (s.afterEvent cut).mem.writeAll (s.cutWrites cut)
    driven := []
    pending := s.pending }

/-- The timebase that HOST_RESET leaves: the machine minute and the time-set flag are kept (R174). -/
def Timebase.kept (t : Timebase) : Timebase :=
  { Timebase.reset with minute := t.minute, timeSet := t.timeSet }

end Sys2Proof.Machine
end

