-- ==== Sys2Proof/Machine/StartRows.lean ====
section
/-! DEFINITION. The meanings of the rows of flash, lines, time, resets and start-up, and of the closes that
start-up may wait for. -/

namespace Sys2Proof.Machine

/-- CLOSE_END (R134). -/
def execCloseEnd (s : State) : Out := .next (s.rowTo s.begin.closeEndOn [])

/-- PERIOD_CLOSE_STEP (R147). -/
def execPeriodCloseStep (s : State) : Out := .next (s.rowTo s.begin.periodStepOn [])

/-- The tariff unit's read-back of a marking whose operation has ended (R68). -/
def readBack (j : Option FlashJob) : List Engine := bookReads (j.any fun k => k.use.marks)

/-- FLASH_OP_END (R74). -/
def execFlashOpEnd (s : State) : Out :=
  .next ((s.afterEvent (.during .flashOpEnd 0)).rowTo s.begin.flashEndOn (readBack s.jobBusy))

/-- FLASH_WAIT_LIMIT (R74). -/
def execFlashWaitLimit (left : List Word) (s : State) : Out :=
  .next (s.rowTo (s.begin.flashLimitOn left) (readBack s.jobLate))

/-- RAW_LINE_CHANGE (R136). -/
def execRawLineChange (line : Line) (level : Bool) (s : State) : Out := .next (s.begin.rawLine line level)

/-- LINE_CHANGE (R136). -/
def execLineChange (line : Line) (s : State) : Out := .next (s.rowTo (s.begin.lineChange line) [])

/-- A minute mark, with the tariff unit's look at the pending book (R82, R175). -/
def State.markRow (s : State) : Out :=
  .next (s.rowTo s.begin.minuteMark (bookReads (s.markCounts && s.path.mode == .running && s.looksAtPending)))

/-- MINUTE_MARK (R175). -/
def execMinuteMark (s : State) : Out := s.markRow

/-- IDLE_TIMEOUT (R19): the minute mark that takes the idle count to its limit (log 16). -/
def execIdleTimeout (s : State) : Out := if s.idleEnds then s.markRow else .next s.begin

/-- AUTHORISATION_END (R144): the minute mark that takes the authorisation count to 0 (log 16). -/
def execAuthorisationEnd (s : State) : Out := if s.authEnds then s.markRow else .next s.begin

/-- POWER_ON (R178). -/
def execPowerOn (cut : Cut) (s : State) : Out := .next (s.begin.resetWith Timebase.reset cut)

/-- HOST_RESET (R178). -/
def execHostReset (cut : Cut) (s : State) : Out :=
  .next (s.begin.resetWith (s.afterEvent cut).time.kept cut)

/-- START_UP (R179). -/
def execStartUp (s : State) : Out := .next (s.rowTo s.begin.startUp [])

/-- FBUSY_WAIT_LIMIT (R179). -/
def execFbusyWaitLimit (s : State) : Out := .next (s.rowTo s.begin.fbusyWaitLimit [])

/-- LINE_SETTLE_LIMIT (R182). -/
def execLineSettleLimit (s : State) : Out := .next (s.rowTo s.begin.settleLimitOn [])

/-- PATH_RUNNING (R45). -/
def execPathRunning (s : State) : Out := .next s.begin.pathRunning

/-- FBUSY_DEASSERTED (R74, R179). -/
def execFbusyDeasserted (left : List Word) (s : State) : Out :=
  .next ((s.afterEvent (.during (.fbusyDeasserted left) 0)).rowTo (s.begin.fbusyOn left) [])

/-- LINE_SETTLED (R136). -/
def execLineSettled (line : Line) (s : State) : Out := .next (s.rowTo (s.begin.lineSettledOn line) [])

end Sys2Proof.Machine
end

