-- ==== Sys2Proof/Machine/Dispatch.lean ====
section
/-! DEFINITION. The meaning of each command: one arm for each constructor, one call each. -/

namespace Sys2Proof.Machine

/-- The effect of a command on everything but the queue. -/
def exec (i : Instr) (s : State) : Host.Outcome State Fault Refusal :=
  match i with
  | .hostPassThrough access => Sys2Proof.Machine.execHostPassThrough access s
  | .heldRead word hi lo => Sys2Proof.Machine.execHeldRead word hi lo s
  | .delayedReadRepeat word hi lo => Sys2Proof.Machine.execDelayedReadRepeat word hi lo s
  | .inputCellWrite word hi lo data => Sys2Proof.Machine.execInputCellWrite word hi lo data s
  | .permitNo second hi lo data => Sys2Proof.Machine.execPermitNo second hi lo data s
  | .timeLo hi lo data => Sys2Proof.Machine.execTimeLo hi lo data s
  | .jexportLow hi lo data => Sys2Proof.Machine.execJexportLow hi lo data s
  | .ownedCellWrite word hi lo data => Sys2Proof.Machine.execOwnedCellWrite word hi lo data s
  | .bookWindowWrite word hi lo data => Sys2Proof.Machine.execBookWindowWrite word hi lo data s
  | .openSale => Sys2Proof.Machine.execOpen s
  | .commit => Sys2Proof.Machine.execCommit s
  | .commitWaitEnd => Sys2Proof.Machine.execCommitWaitEnd s
  | .abandon => Sys2Proof.Machine.execAbandon s
  | .clear => Sys2Proof.Machine.execClear s
  | .saleCmdUnknown value => Sys2Proof.Machine.execSaleCmdUnknown value s
  | .coinIn index => Sys2Proof.Machine.execCoinIn index s
  | .cardIn pence => Sys2Proof.Machine.execCardIn pence s
  | .check => Sys2Proof.Machine.execCheck s
  | .drop => Sys2Proof.Machine.execDrop s
  | .permitReqUnknown value => Sys2Proof.Machine.execPermitReqUnknown value s
  | .time high => Sys2Proof.Machine.execTime high s
  | .salesOff high => Sys2Proof.Machine.execSalesOff high s
  | .salesOn high => Sys2Proof.Machine.execSalesOn high s
  | .clearStop condition => Sys2Proof.Machine.execClearStop condition s
  | .serviceCmdUnknown value => Sys2Proof.Machine.execServiceCmdUnknown value s
  | .authorise => Sys2Proof.Machine.execAuthorise s
  | .clearIntrusion => Sys2Proof.Machine.execClearIntrusion s
  | .collectCmdUnknown value => Sys2Proof.Machine.execCollectCmdUnknown value s
  | .installBegin => Sys2Proof.Machine.execInstallBegin s
  | .installEnd => Sys2Proof.Machine.execInstallEnd s
  | .installAbort => Sys2Proof.Machine.execInstallAbort s
  | .cancelPending => Sys2Proof.Machine.execCancelPending s
  | .bookCmdUnknown value => Sys2Proof.Machine.execBookCmdUnknown value s
  | .pop => Sys2Proof.Machine.execPop s
  | .faultCmdUnknown value => Sys2Proof.Machine.execFaultCmdUnknown value s
  | .report code => Sys2Proof.Machine.execReport code s
  | .reportBadCode value => Sys2Proof.Machine.execReportBadCode value s
  | .attnEos value => Sys2Proof.Machine.execAttnEos value s
  | .attnEnable value => Sys2Proof.Machine.execAttnEnable value s
  | .attnTake hi lo => Sys2Proof.Machine.execAttnTake hi lo s
  | .jexport high => Sys2Proof.Machine.execJexport high s
  | .pexport mark => Sys2Proof.Machine.execPexport mark s
  | .amendTail tail => Sys2Proof.Machine.execAmendTail tail s
  | .groupWrite => Sys2Proof.Machine.execGroupWrite s
  | .imageRewrite => Sys2Proof.Machine.execImageRewrite s
  | .memoryPortGrant hostWaits => Sys2Proof.Machine.execMemoryPortGrant hostWaits s
  | .staleRead => Sys2Proof.Machine.execStaleRead s
  | .bandStep => Sys2Proof.Machine.execBandStep s
  | .priceRunComplete => Sys2Proof.Machine.execPriceRunComplete s
  | .searchSeek => Sys2Proof.Machine.execSearchSeek s
  | .searchScan => Sys2Proof.Machine.execSearchScan s
  | .commitPermitStep => Sys2Proof.Machine.execCommitPermitStep s
  | .add => Sys2Proof.Machine.execAdd s
  | .replace => Sys2Proof.Machine.execReplace s
  | .revoke => Sys2Proof.Machine.execRevoke s
  | .delete => Sys2Proof.Machine.execDelete s
  | .rollClear => Sys2Proof.Machine.execRollClear s
  | .badOp => Sys2Proof.Machine.execBadOp s
  | .scrubStep => Sys2Proof.Machine.execScrubStep s
  | .closeStep => Sys2Proof.Machine.execCloseStep s
  | .closeEnd => Sys2Proof.Machine.execCloseEnd s
  | .periodClose => Sys2Proof.Machine.execPeriodClose s
  | .periodCloseStep => Sys2Proof.Machine.execPeriodCloseStep s
  | .changeover => Sys2Proof.Machine.execChangeover s
  | .dailyCheck => Sys2Proof.Machine.execDailyCheck s
  | .flashOpEnd => Sys2Proof.Machine.execFlashOpEnd s
  | .flashWaitLimit left => Sys2Proof.Machine.execFlashWaitLimit left s
  | .rawLineChange line level => Sys2Proof.Machine.execRawLineChange line level s
  | .lineChange line => Sys2Proof.Machine.execLineChange line s
  | .minuteMark => Sys2Proof.Machine.execMinuteMark s
  | .idleTimeout => Sys2Proof.Machine.execIdleTimeout s
  | .authorisationEnd => Sys2Proof.Machine.execAuthorisationEnd s
  | .powerOn cut => Sys2Proof.Machine.execPowerOn cut s
  | .hostReset cut => Sys2Proof.Machine.execHostReset cut s
  | .startUp => Sys2Proof.Machine.execStartUp s
  | .fbusyWaitLimit => Sys2Proof.Machine.execFbusyWaitLimit s
  | .lineSettleLimit => Sys2Proof.Machine.execLineSettleLimit s
  | .pathRunning => Sys2Proof.Machine.execPathRunning s
  | .fbusyDeasserted left => Sys2Proof.Machine.execFbusyDeasserted left s
  | .lineSettled line => Sys2Proof.Machine.execLineSettled line s

end Sys2Proof.Machine
end

