-- ==== Sys2Proof/Safety.lean ====
section
/-! DEFINITION. What the statements speak of: the invariants, and when the part takes an access. -/

namespace Sys2Proof.Machine

/-! ## Invariants -/

/-- Memory is in its canonical form. -/
def State.Canonical (s : State) : Prop := Memory.wf s.mem

/-- The pending set and the ready order hold each thing once (R35, R36), the stop set each condition once
(R160), the fault list at most ten records (R150), the arbiter counts at most eight grants (R42), and the
probe limit is at most 8 (R91). -/
def State.Bounded (s : State) : Prop :=
  s.path.owed.Nodup ∧ s.path.ready.Nodup ∧ s.fault.stop.Nodup ∧ s.fault.list.length ≤ 10
    ∧ s.path.arb.count ≤ 8 ∧ s.cfg.probeLimit ≤ 8

/-! ## When an access is taken -/

/-- The part is RUNNING with a window map that the placement checks pass (R25, R45). -/
def State.Runs (s : State) (m : WindowMap) : Prop :=
  s.path.mode = .running ∧ s.start.phase = .done ∧ s.path.map = some m ∧ m.placed = true

/-- A word write to this command cell is taken (R29): the part is RUNNING and the cell's group is not in
the pending set, which does not matter for PERMIT_REQ. -/
def State.Takes (s : State) (c : Cell) : Prop :=
  (∃ m, s.Runs m) ∧ c.kind = .command ∧ (c = .permitReq ∨ ∀ g, c.group = some g → g ∉ s.path.owed)

/-- The byte address of a named cell. -/
def State.cellByte (s : State) (c : Cell) : Nat := s.at c.place.1 c.place.2

/-- The word the delayed-read slot is latched for, if it is not EMPTY. -/
def State.latchedWord (s : State) : Option (BitVec 23) :=
  match s.path.slot with
  | .empty => none
  | .waiting read => some read.word
  | .complete read _ _ => some read.word

/-- The delayed-read slot after a host write to a word, if there is one, and then the entry of groups into
the pending set (R40). -/
def State.slotAfter (s : State) (word : Option (BitVec 23)) (gs : List Group) : DelayedSlot :=
  match s.path.slot with
  | .empty => .empty
  | .waiting read => if some read.word = word then .empty else .waiting read
  | .complete read value timer =>
    if some read.word = word then .empty
    else if read.group ∈ gs then .waiting read
    else .complete read value timer

/-! ## Frames -/

/-- The parts of the state that a frame names: all but the arbiter, of which `Obligations.TheArbiterGrantsOneRequester`
says what each command does to it. -/
inductive Part where
  | mode
  | map
  | owed
  | ready
  | slot
  | reply
  | cfg
  | sale
  | tariff
  | engine
  | permit
  | cash
  | fault
  | time
  | lines
  | start
  | flash
deriving DecidableEq, Repr

/-- A part is as before; `tariff` is the tariff unit but for its pricing engine. -/
def State.Same (s t : State) : Part → Prop
  | .mode => t.path.mode = s.path.mode
  | .map => t.path.map = s.path.map
  | .owed => t.path.owed = s.path.owed
  | .ready => t.path.ready = s.path.ready
  | .slot => t.path.slot = s.path.slot
  | .reply => t.path.reply = s.path.reply
  | .cfg => t.cfg = s.cfg
  | .sale => t.sale = s.sale
  | .tariff => t.tariff = { s.tariff with engine := t.tariff.engine }
  | .engine => t.tariff.engine = s.tariff.engine
  | .permit => t.permit = s.permit
  | .cash => t.cash = s.cash
  | .fault => t.fault = s.fault
  | .time => t.time = s.time
  | .lines => t.lines = s.lines
  | .start => t.start = s.start
  | .flash => t.flash = s.flash

/-- Every part but those named is as before. -/
def State.KeepsBut (s t : State) (ps : List Part) : Prop := ∀ p, p ∉ ps → s.Same t p

/-- The command answers this state, the arbiter apart. -/
def State.ComesTo (s : State) (c : Instr) (t : State) : Prop := ∃ b, exec c s = .next { t with path.arb := b }

/-- The writes of consecutive words from an address on. -/
def runWrites (a : Nat) : List Word → List (Nat × Word)
  | [] => []
  | w :: rest => (a, w) :: runWrites (a + 2) rest

/-- Memory is what these word writes make of it, in this order, and every byte outside them reads as before. -/
def State.Stored (s t : State) (ws : List (Nat × Word)) : Prop :=
  t.mem = s.mem.writeAll ws
    ∧ (s.Canonical →
        ∀ a, (∀ w ∈ ws, a ≠ w.1 ∧ a ≠ w.1 + 1) → t.mem.read a = s.mem.read a)

/-- The word writes driven on the memory port in the row from `s` to `t` are these, in this order, and memory is what
they make of it. -/
def State.WroteOnly (s t : State) (ws : List (Nat × Word)) : Prop :=
  t.driven.reverse = ws ∧ s.Stored t ws

/-- These word writes are driven after those that the row has driven before, and memory is what they make of it: what a
part of a row does. -/
def State.WroteMore (s t : State) (ws : List (Nat × Word)) : Prop :=
  t.driven = ws.reverse ++ s.driven ∧ s.Stored t ws

/-- These groups, and no other, have entered the pending set; each of them is ready once nothing more is
owed into it, and what else was ready still is (R35, R36). -/
def State.Owes (s t : State) (gs : List Group) : Prop :=
  (∀ g, g ∈ t.path.owed ↔ g ∈ s.path.owed ∨ g ∈ gs)
    ∧ (∀ g ∈ gs, t.busy g = false → .group g ∈ t.path.ready)
    ∧ ∀ x ∈ s.path.ready, (∀ g ∈ gs, x ≠ .group g) → x ∈ t.path.ready

/-- A command's effect: these groups are owed, the delayed-read slot follows R40 (`word` is the word that the
host writes), these word writes are made, and nothing else changes but the parts named. -/
def State.Effect (s t : State) (word : Option (BitVec 23)) (gs : List Group) (changed : List Part)
    (ws : List (Nat × Word)) : Prop :=
  s.Owes t gs ∧ t.path.slot = s.slotAfter word gs ∧ s.WroteOnly t ws
    ∧ s.KeepsBut t ([.owed, .ready, .slot] ++ changed)

/-- The effect of a part of a row, whose word writes follow those that the row has driven before. -/
def State.EffectMore (s t : State) (gs : List Group) (changed : List Part) (ws : List (Nat × Word)) : Prop :=
  s.Owes t gs ∧ t.path.slot = s.slotAfter none gs ∧ s.WroteMore t ws
    ∧ s.KeepsBut t ([.owed, .ready, .slot] ++ changed)

/-- A request written to a command cell is taken: the access is ended READY, the word is in memory with the
words `more` after it, these groups are owed, and nothing else changes but the parts named. -/
def State.Took (s t : State) (c : Cell) (v : Word) (gs : List Group) (changed : List Part)
    (more : List (Nat × Word)) : Prop :=
  t.path.reply = { term := .ready, data := .none }
    ∧ s.Effect t (some (s.cellAddr c)) gs (.reply :: changed) ((s.cellByte c, v) :: more)

/-- The engine has begun a price run for this request, or will at the next step of the run it overtakes
(R17, R49). -/
def State.PriceStarted (s t : State) (q : PriceRequest) : Prop :=
  t.tariff.engine =
    match s.tariff.engine.run with
    | none => { run := some (PriceRun.ofRequest s.tariff.cache q), overtaken := .no }
    | some r => { run := some r, overtaken := .restart q }

/-- The writes of a closing intent: words 1 to 127, then the state word ARMED (R132). -/
def State.intentWrites (s : State) (c : Close) : List (Nat × Word) :=
  runWrites (s.at .cash 33) c.intentWords ++ [(s.at .cash 32, 1)]

/-- The cash unit when the sale unit hands it a close: the close is formed at once from the sale as it then
stands, or waits for the close in hand (R132, R146), at the place that a due period close has kept for it or last. -/
def State.closeHanded (s : State) (u : SaleUnit) : CashUnit :=
  if s.cash.close.isNone then
    { s.cash with
      close := some { s with sale := u }.saleCloseImages
      waiting := s.cash.waiting.filter (· != CashWork.saleComes) }
  else if .saleComes ∈ s.cash.waiting then
    { s.cash with waiting := s.cash.waiting.replace .saleComes .saleClose }
  else { s.cash with waiting := s.cash.waiting ++ [.saleClose] }

/-- The writes of a close handed over: its intent, if it is formed at once. -/
def State.handWrites (s : State) (u : SaleUnit) : List (Nat × Word) :=
  if s.cash.close.isNone then s.intentWrites { s with sale := u }.saleCloseImages else []

/-- The search in flight holds the roll lock. -/
def PermitUnit.searchHolds (p : PermitUnit) : Prop := p.lock.holder = some .search ∧ p.dying = false

/-- The permit unit with its search abandoned (R103): one that waits leaves the waiters, one that holds the
lock ends at its next step. -/
def PermitUnit.abandoned (p q : PermitUnit) : Prop :=
  (p.search = none → q = p)
    ∧ (p.search ≠ none → p.searchHolds → q = { p with search := none, dying := true })
    ∧ (p.search ≠ none → ¬ p.searchHolds →
        q = { p with search := none, lock.waiters := p.lock.waiters.filter (· != .search) })

/-- Today: the low 16 bits of the day number of the machine minute (R96, R105). -/
def State.today (s : State) : Word := BitVec.ofNat 16 (s.time.minute.toNat / 1440)

/-- The permit unit with a FREE lock handed to the highest-ranked waiter, if there is one, on a day, which a commit
permit step takes (R92, R105, R110). -/
def PermitUnit.handedOn (p : PermitUnit) (day : Word) : PermitUnit :=
  match [LockKind.commitStep, .search, .amendment, .scrub].find? fun k => decide (k ∈ p.lock.waiters) with
  | some k =>
    { p with lock := { holder := some k, waiters := p.lock.waiters.filter (· != k) }
             commitDay := if k = .commitStep then day else p.commitDay
             amend := if k = .amendment then .applying else p.amend }
  | none => p

/-- The permit unit after its lock's holder has released it (R92). -/
def PermitUnit.released (p : PermitUnit) (day : Word) : PermitUnit := { p with lock.holder := none }.handedOn day

/-- The permit unit after a piece of work has asked for the lock (R92). -/
def PermitUnit.asked (p : PermitUnit) (k : LockKind) (day : Word) : PermitUnit :=
  let q := { p with
    lock.waiters := if k ∈ p.lock.waiters then p.lock.waiters else p.lock.waiters ++ [k] }
  if p.lock.holder = none then q.handedOn day else q

/-- A price run starts on the sale as it then stands, if it is asked for; if not, the engine is as before. -/
def State.Reprices (s t : State) (asked : Prop) : Prop :=
  (asked → s.PriceStarted t
    { t0 := s.time.minute.toNat, tendered := t.sale.tendered
      permit := t.sale.permit.map PermitInUse.category })
  ∧ (¬ asked → t.tariff.engine = s.tariff.engine)

/-- The search has ended with a verdict and the permit in use that it gives (R92, R102): the lock is released,
the context takes both, and an OPEN sale is repriced when there is or was a permit in use. -/
def State.SearchEnded (s t : State) (v : Verdict) (permit : Option PermitInUse) (changed : List Part) : Prop :=
  let asked := s.sale.state = .opened ∧ (permit.isSome || s.sale.permit.isSome) = true
  s.Effect t none ([.permitResp] ++ if asked then [.price] else [])
      ([.sale, .permit] ++ (if asked then [.engine] else []) ++ changed) []
    ∧ t.sale = { s.sale with verdict := v, permit := permit }
    ∧ t.permit = { s.permit with search := none, permitReq := BitVec.ofNat 16 v.code }.released s.today
    ∧ s.Reprices t asked

/-- The amendment engine asks for the lock when it is IDLE with entries handed to it, in RUNNING (R110, R183). -/
def PermitUnit.kicked (p : PermitUnit) (mode : PathMode) (day : Word) : PermitUnit :=
  if mode = .running ∧ p.amend = .idle ∧ p.head ≠ p.handed then
    { p with amend := .waiting }.asked .amendment day
  else p

/-- The amendment engine is APPLYING the entry at the head, with this operation word (R110). -/
def State.Applies (s : State) (op : Nat) : Prop :=
  s.permit.amend = .applying ∧ s.permit.lock.holder = some .amendment
    ∧ (s.word (s.entryAddr s.permit.head)).toNat = op

/-- The permit record image of the entry at the head, as 16 words (R191). -/
def State.headImage (s : State) : List Word := s.words (s.entryAddr s.permit.head + 8) 16

/-- The state once IN_PROGRESS is in the result word of the entry at the head (R110 step 2). -/
def State.inProgress (s : State) : State := s.begin.put (s.entryAddr s.permit.head + 6) 23

/-- The slots of a bucket other than one whose status is LIVE or REVOKED. -/
def State.othersIn (s : State) (b : BitVec 9) (k : Nat) : Nat :=
  ((List.range 8).filter fun j =>
    j ≠ k && (recStatus (s.slotWords b j) == 1 || recStatus (s.slotWords b j) == 2)).length

/-- The writes of a bucket header. -/
def State.headerWrites (s : State) (b : BitVec 9) (occupied : Nat) (overflow : Bool) : List (Nat × Word) :=
  runWrites (s.bucketAddr b) (bucketHeader b occupied overflow)

/-- The writes of a permit record: the status word, its third, is written last (R113). -/
def State.recordWrites (s : State) (b : BitVec 9) (k : Nat) (ws : List Word) : List (Nat × Word) :=
  let a := s.slotAddr b k
  runWrites a (ws.take 2) ++ runWrites (a + 6) (ws.drop 3) ++ [(a + 4, wordOf ws 2)]

/-- The record count after a bucket header is written with an occupied count (R112). -/
def State.countWith (s : State) (count : Word) (b : BitVec 9) (occupied : Nat) : Word :=
  countAfter count (s.word (s.bucketAddr b + 4)).toNat occupied

/-- The sale unit in a void begun with a reason, with this word left for SALE_CMD (R22, R23). -/
def State.voidedSale (s : State) (reason : VoidReason) (cmd : Word) : SaleUnit :=
  let pence := penceOf s.sale.escrow s.cfg.denoms + penceOf s.sale.late s.cfg.denoms
  { s.sale with
    state := .voiding, voidReason := reason, saleCmd := cmd, waitCommit := false
    recordStep := false, permitPart := none
    refundDue := BitVec.ofNat 16 (min pence 65535), commitFlags := if pence = 0 then 0 else 2 }

/-- A void has begun (R18, R22, R104): the sale unit as given, a close handed to the cash unit, the price run
abandoned, and a search in flight abandoned with NO_SALE; PRICE and PERMIT_RESP, owed for them, are ready. -/
def State.VoidBegun (s t : State) (u : SaleUnit) : Prop :=
  t.sale = u ∧ t.cash = s.closeHanded u
    ∧ t.tariff.engine =
        (if s.busy .price then { s.tariff.engine with overtaken := .stop } else s.tariff.engine)
    ∧ (∃ q, s.permit.abandoned q
        ∧ t.permit = if s.permit.search.isSome then { q with permitReq := 26 } else q)
    ∧ (s.busy .price = true → .price ∈ s.path.owed → .group .price ∈ t.path.ready)
    ∧ (s.permit.search.isSome = true → .permitResp ∈ s.path.owed → .group .permitResp ∈ t.path.ready)

/-- A fault is raised (R153, R154): with room in the list a record is added, with the next sequence, the
state as it stood and no followers; with ten records the newest counts a follower. -/
def State.Recorded (s t : State) (cls : FaultClass) (sub : Byte) (detail : Word) : Prop :=
  if s.fault.list.length < 10 then
    t.fault.seq = s.fault.seq + 1
      ∧ t.fault.list = s.fault.list ++
          [{ cls := cls, sub := sub, seq := s.fault.seq + 1, minute := s.minuteOrNone
             saleNumber := if s.sale.state.inProgress then s.sale.number else 0
             detail := detail, saleState := s.sale.state, followers := 0 }]
  else t.fault.seq = s.fault.seq ∧ t.fault.list = addFollower s.fault.list

/-- The list and sequence after one more raising (R153, R154). -/
def State.recordOne (s : State) (l : List FaultRecord × Word) (x : FaultClass × Byte × Word) :
    List FaultRecord × Word :=
  if l.1.length < 10 then
    (l.1 ++ [{ cls := x.1, sub := x.2.1, seq := l.2 + 1, minute := s.minuteOrNone
               saleNumber := if s.sale.state.inProgress then s.sale.number else 0
               detail := x.2.2, saleState := s.sale.state, followers := 0 }], l.2 + 1)
  else (addFollower l.1, l.2)

/-- These faults are raised, in this order, with the sale and the time as they stood. -/
def State.RecordedAll (s t : State) (xs : List (FaultClass × Byte × Word)) : Prop :=
  (t.fault.list, t.fault.seq) = xs.foldl s.recordOne (s.fault.list, s.fault.seq)

/-- A source is raised with a notice (R167): the notice word is set, and the source is pending if it is
enabled or was pending; its in-service and enable flags are kept. -/
def State.Raised (s t : State) (x : Source) (notice : Word) : Prop :=
  let r := s.fault.sources.get x
  t.fault.sources.get x = { r with notice := notice, pend := r.pend || r.enabled }

/-- Updates of the open period taken in order, until a close comes (R124, R128, R138): the period after them,
the writes of each changed word with the check word, and what is left. A place kept for a sale's close is passed
over. -/
def State.updates (s : State) (p : PeriodRecord) :
    List CashWork → PeriodRecord × List (Nat × Word) × List CashWork
  | .stray d :: rest =>
    let n := BitVec.ofNat 16 (min (p.stray[d].toNat + 1) 65535)
    let q := { p with stray := p.stray.set d n }
    let r := s.updates q rest
    (r.1, [(s.at .cash (1184 + (24 + d.val)), n), (s.at .cash (1184 + 63), crc q.body)] ++ r.2.1, r.2.2)
  | .forcedEntry :: rest =>
    let n := BitVec.ofNat 16 (min (p.intrusions.toNat + 1) 65535)
    let q := { p with intrusions := n }
    let r := s.updates q rest
    (r.1, [(s.at .cash (1184 + 52), n), (s.at .cash (1184 + 63), crc q.body)] ++ r.2.1, r.2.2)
  | .periodClose :: rest => (p, [], .periodClose :: rest)
  | .saleClose :: rest => (p, [], .saleClose :: rest)
  | .saleComes :: rest => s.updates p rest
  | [] => (p, [], [])

/-- The cash unit `c`, with no close in hand, once what waited has been taken (R128, R146), with the writes: a
sale's close that comes next is formed, with its intent. -/
def State.drained (s : State) (c : CashUnit) : CashUnit × List (Nat × Word) :=
  let u := s.updates c.period c.waiting
  match u.2.2 with
  | .saleClose :: rest =>
    let d := { c with period := u.1, waiting := rest }
    let close := { s with cash := d }.saleCloseImages
    ({ d with close := some close }, u.2.1 ++ s.intentWrites close)
  | left => ({ c with period := u.1, waiting := left }, u.2.1)

/-- Removing a condition resets INHIBIT: it is the last one that blocks COIN, and the sale is OPEN (R16, R162). -/
def State.inhibitFreed (s : State) (c : Condition) : Bool :=
  decide (c ∈ s.fault.stop) && c.blocksCoin && s.fault.stop.all (fun d => d == c || !d.blocksCoin)
    && s.sale.state == .opened

/-- The sale unit after a condition is removed (R16). -/
def State.saleFreed (s : State) (c : Condition) : SaleUnit :=
  if s.inhibitFreed c then
    { s.sale with inhibit := if s.sale.escrowTotal = s.cfg.escrowCap then 1 else 0 }
  else s.sale

/-- The sources after one of them is raised with a notice (R167). -/
def Sources.raised (q : Sources) (x : Source) (notice : Word) : Sources :=
  let r := q.get x
  q.set x { r with notice := notice, pend := r.pend || r.enabled }

/-- The sources after the attention of a raising (R155, R156): with the route LOG nothing; with a delegated class
and a sale in progress the SALE source, with SALE_VOIDED (1) if the raising voided the sale and the class's
translated notice if not; else the FAULT source with the class code, and SALE too for a void. -/
def State.attended (s : State) (cls : FaultClass) (translated : Word) (voided : Bool) : Sources :=
  let e := s.routeOf cls
  let q := s.fault.sources
  if e.route = .log then q
  else if e.delegate = true ∧ s.sale.state.inProgress = true then
    q.raised .sale (if voided then 1 else translated)
  else
    let r := q.raised .fault (BitVec.ofNat 16 cls.code)
    if voided then r.raised .sale 1 else r

/-- The writes of the compartment mirrors (R137): the state, the intrusion flag, the authorisation count. -/
def State.mirrorWrites (s : State) (c : CashUnit) : List (Nat × Word) :=
  [(s.at .cash 19, BitVec.ofNat 16 c.compartment.code), (s.at .cash 20, if c.intrusion then 1 else 0),
   (s.at .cash 21, BitVec.ofNat 16 c.authCount)]

/-- What a delivered change of DOOR or BOX does in a compartment state (R138 to R141). -/
structure LineOutcome where
  /-- The compartment state after it. -/
  state : Compartment
  /-- It is a forced entry: the intrusion flag is set and the open period counts it. -/
  forced : Bool
  /-- The authorisation count becomes 0. -/
  uncount : Bool
  /-- A period close is due. -/
  due : Bool
  /-- DOOR_OPEN is added. -/
  adds : Bool
  /-- A condition is removed from the stop set. -/
  removes : Option Condition
  /-- The faults raised, with their details. -/
  faults : List (FaultClass × Word)

/-- The table of R138 to R141; `box` is the level of BOX. A change that the state makes impossible leaves it. -/
def lineOutcome (c : Compartment) (l : Line) (level box : Bool) : LineOutcome :=
  let still : LineOutcome :=
    { state := c, forced := false, uncount := false, due := false, adds := false, removes := none
      faults := [] }
  match l, level, c with
  | .door, true, .authorised => { still with state := .opened, uncount := true, adds := true }
  | .door, true, .sealed | .door, true, .sealedEmpty =>
    { still with state := .breached, forced := true, faults := [(.intrusion, 1)] }
  | .door, false, .opened | .door, false, .refilled =>
    { still with state := .sealed, removes := some .doorOpen }
  | .door, false, .boxOut =>
    { still with state := .sealedEmpty, removes := some .doorOpen, faults := [(.boxAbsent, 3)] }
  | .door, false, .breached =>
    { still with
      state := if box then .sealed else .sealedEmpty
      faults := (.intrusion, 2) :: if box then [] else [(.boxAbsent, 6)] }
  | .box, false, .opened => { still with state := .boxOut, due := true }
  | .box, false, .refilled => { still with state := .boxOut }
  | .box, false, .breached => { still with faults := [(.intrusion, 3), (.boxAbsent, 6)] }
  | .box, false, .sealed => { still with state := .sealedEmpty, faults := [(.boxAbsent, 0)] }
  | .box, false, .authorised =>
    { still with state := .sealedEmpty, uncount := true, faults := [(.boxAbsent, 1)] }
  | .box, true, .boxOut => { still with state := .refilled, removes := some .boxAbsent }
  | .box, true, .sealedEmpty => { still with state := .sealed, removes := some .boxAbsent }
  | .box, true, .breached => { still with removes := some .boxAbsent, faults := [(.intrusion, 4)] }
  | .box, true, _ => { still with removes := some .boxAbsent }
  | _, _, _ => still

/-- What waits when a period close falls due (R146): the period close, after a place for a sale's close that has not
been handed over, where a period close is in flight and no place is kept yet. -/
def State.duesWaiting (s : State) : List CashWork :=
  if (s.sale.state = .committing ∨ s.sale.state = .voiding)
      ∧ .saleClose ∉ s.cash.waiting ∧ .saleComes ∉ s.cash.waiting
      ∧ s.cash.close.map Close.kind = some .period then
    s.cash.waiting ++ [.saleComes, .periodClose]
  else s.cash.waiting ++ [.periodClose]

/-- The cash unit with the compartment as an outcome leaves it (R137); a due period close waits (R146). -/
def State.cashAfter (s : State) (o : LineOutcome) : CashUnit :=
  { s.cash with
    compartment := o.state, intrusion := s.cash.intrusion || o.forced
    authCount := if o.uncount then 0 else s.cash.authCount
    closeOwed := s.cash.closeOwed || o.due
    waiting := if o.due then s.duesWaiting else s.cash.waiting }

/-- The writes of a compartment change: the close-owed mark of a due period close first (R146), and the mirrors
when one of them changes (R137). -/
def State.compartmentWrites (s : State) (o : LineOutcome) : List (Nat × Word) :=
  let c := s.cashAfter o
  (if o.due then [(s.at .cash 22, 1)] else [])
    ++ if c.compartment = s.cash.compartment ∧ c.intrusion = s.cash.intrusion
          ∧ c.authCount = s.cash.authCount then [] else s.mirrorWrites c

/-- A forced entry counted in the open period (R128, R138): at once, with the writes, when no close holds the
period and nothing waits before it; else it waits. -/
def State.forcedCounted (s : State) (c : CashUnit) (forced : Bool) : CashUnit × List (Nat × Word) :=
  if forced = false then (c, [])
  else if c.close = none ∧ c.waiting = [] then
    let p := { c.period with intrusions := BitVec.ofNat 16 (min (c.period.intrusions.toNat + 1) 65535) }
    ({ c with period := p }, [(s.at .cash (1184 + 52), p.intrusions), (s.at .cash (1184 + 63), crc p.body)])
  else ({ c with waiting := c.waiting ++ [.forcedEntry] }, [])

/-- The LINES latch after a delivered change, with the levels just after it (R149). -/
def State.latchAfter (s : State) (levels : Levels) : LinesLatch :=
  if s.fault.sources.cash.enabled = true ∧ s.cash.latch = .live then .frozen levels else s.cash.latch

/-- The stop set with one more condition (R160). -/
def withCondition (stop : List Condition) (c : Condition) : List Condition :=
  if c ∈ stop then stop else stop ++ [c]

/-- The notice of SALE for a delegated raising that voids no sale (R156). -/
def FaultClass.noticed (c : FaultClass) : Word :=
  if c = .boxFull ∨ c = .boxAbsent then 2
  else if c = .rollSeek ∨ c = .recordCrc ∨ c = .rollFull then 3 else 4

/-- The stop set after a raising that voids no sale: a STOP route adds the class's condition (R155, R161). -/
def State.stopAfter (s : State) (stop : List Condition) (cls : FaultClass) : List Condition :=
  match cls.condition with
  | some c => if (s.routeOf cls).route = .stop then withCondition stop c else stop
  | none => stop

/-- These faults, whose conditions void no sale, are raised in this order, with all that their routes do (R153 to
R156, R161); `stops` and `after` are what then happens to the stop set and to the sources. Nothing else of the
fault unit changes. -/
def State.FaultsRaised (s t : State) (xs : List (FaultClass × Byte × Word))
    (stops : List Condition → List Condition) (after : Sources → Sources) : Prop :=
  s.RecordedAll t xs
    ∧ t.fault = { s.fault with
        list := t.fault.list, seq := t.fault.seq
        stop := stops (xs.foldl (fun q x => s.stopAfter q x.1) s.fault.stop)
        sources := after (xs.foldl
          (fun q x => ({ s with fault.sources := q } : State).attended x.1 x.1.noticed false)
          s.fault.sources) }

/-- The entry at the head is finished with a result (R110 steps 2 to 7, R120), `ops` being the writes of the
operation, `p` the permit unit it leaves, `raised` the faults it raises and `stops` what it then does to the
stop set: the roll header is written unless the header state is BAD, the head advances, the lock is released,
and the ROLL source is raised with REFUSED for a result other than APPLIED and with DRAINED when the queue is
then empty. -/
def State.Amended (s t : State) (result : Word) (p : PermitUnit) (ops : List (Nat × Word))
    (raised : List (FaultClass × Byte × Word)) (stops : List Condition → List Condition) : Prop :=
  let k := s.permit.head
  let a := s.entryAddr k
  let sequence := s.dword (a + 2)
  let before := [(a + 6, 23)] ++ ops ++ [(a + 6, result)]
  let limit := (s.mem.writeAll before).readWord (s.at .roll 2)
  let drained := k + 1 = s.permit.tail
  let told := result ≠ 16 ∨ drained
  let notice : Word := if drained then 1 else mkWord (BitVec.ofNat 8 k.toNat) 2
  s.Effect t none [] [.permit, .fault]
      (before
        ++ (if p.headerGood then
              runWrites (s.at .roll 0) (rollHeader limit p.recordCount sequence) else [])
        ++ [(s.at .roll 69648, BitVec.ofNat 16 (k + 1).toNat)])
    ∧ t.permit =
        (({ p with
            head := k + 1, lastSeq := if p.headerGood then sequence else p.lastSeq
            amend := .idle } : PermitUnit).released s.today |>.kicked s.path.mode s.today)
    ∧ s.FaultsRaised t raised stops fun q => if told then q.raised .roll notice else q

/-- The book programmer when a job is asked for: IDLE it takes the job, else the job waits (R74, log 23). -/
def State.progAsked (s : State) (j : FlashJob) : Programmer :=
  if s.tariff.prog.job = none ∧ s.tariff.prog.jobs = [] then
    { job := some j, waitsFbusy := s.flash.fbusy, timer := some s.cfg.flashWaitMs, jobs := [] }
  else { s.tariff.prog with jobs := s.tariff.prog.jobs ++ [j] }

/-- The flash when a job is asked for: an IDLE programmer makes its command writes unless FBUSY is asserted. -/
def State.flashAsked (s : State) (j : FlashJob) : FlashPins :=
  if s.tariff.prog.job = none ∧ s.tariff.prog.jobs = [] ∧ s.flash.fbusy = false then
    { fbusy := true, op := some j.op }
  else s.flash

/-- The job that marks a slot (R68). -/
def State.marking (s : State) (slot : BookSlot) (value : Word) (use : FlashUse) : FlashJob :=
  { op := .program (s.bookAddr slot) value, use := use }

/-- What follows the end of a flash operation (R77 to R81, R84, R85). -/
structure FlashOutcome where
  /-- The tariff unit, but for its programmer. -/
  tariff : TariffUnit
  /-- The operation asked for next. -/
  next : Option FlashJob
  /-- BOOK_RESP is answered. -/
  answers : Bool
  /-- The detail of a BOOK_REJECTED raised. -/
  rejected : Option Word
  /-- The changeover ends, and a waiting OPEN is taken. -/
  releases : Bool

/-- What follows an operation's end, memory being as the flash then gives it; `ended` says that FBUSY ended it.
A marking is done when the state word reads as marked (R68). A pending slot whose RETIRED marking failed and left the
word reading ACTIVE stays pending (log 53, the model's choice). -/
def State.flashOutcome (y : State) (use : FlashUse) (ended : Bool) : FlashOutcome :=
  let T := y.tariff
  let S := T.session
  let slot := S.slot
  let reads (x : BookSlot) : SlotState := SlotState.ofWord (y.word (y.bookAddr x))
  let word := y.word (y.bookAddr slot)
  let gone (x : BookSlot) : Bool := reads x == .retired || reads x == .rejected
  let still : FlashOutcome :=
    { tariff := T, next := none, answers := false, rejected := none, releases := false }
  let marks (value : Word) (u : FlashUse) : FlashOutcome := { still with next := some (y.marking slot value u) }
  let closed : TariffUnit := { T with session := { S with state := .closed, keyLost := false, waits := [] } }
  let answered (t : TariffUnit) (code : Word) : FlashOutcome :=
    { still with tariff := { t with bookCmd := code, hand := none }, answers := true }
  match use with
  | .beginErase =>
    if S.keyLost then marks 0 (.beginReject 17)
    else if ended then marks 0x7FFF .beginMark else marks 0 (.beginReject 21)
  | .beginMark =>
    if S.keyLost then marks 0 (.beginReject 17)
    else if word = 0x7FFF then answered { T with session.state := .opened } 16
    else
      { answered closed 21 with
        next := if reads slot = .rejected then none else some (y.marking slot 0 .rejectOnly) }
  | .beginReject code =>
    { answered closed (if S.keyLost then 17 else code) with rejected := if S.keyLost then some 17 else none }
  | .hostWord =>
    match S.waits with
    | .keyWithdrawn :: _ => marks 0 (.abortMark true)
    | .request .installEnd :: _ =>
      if ended then
        { still with
          tariff := { T with session.state := .ending }, next := some (y.marking slot 0x3FFF .endLoaded) }
      else marks 0 (.endReject 21 none)
    | .request .installAbort :: _ => marks 0 .abortRequest
    | _ => if ended then still else marks 0 (.abortMark false)
  | .endLoaded =>
    if word = 0x3FFF then
      match y.validate slot true with
      | .passes _ => marks 0x1FFF .endValid
      | .fails reason => marks 0 (.endReject 20 (some (BitVec.ofNat 16 reason)))
    else marks 0 (.endReject 21 none)
  | .endValid =>
    if word = 0x1FFF then answered { closed with pendingSlot := some slot, due := false } 16
    else marks 0 (.endReject 21 none)
  | .endReject code reason => { answered closed code with rejected := reason }
  | .abortMark key =>
    let withdrawn := key || S.waits.contains .keyWithdrawn
    let o := if S.waits.any (· != .keyWithdrawn) then answered closed 19 else { still with tariff := closed }
    { o with rejected := if withdrawn then some 17 else none }
  | .abortRequest => answered closed (if word = 0 then 16 else 21)
  | .cancelMark =>
    match T.pendingSlot with
    | some p =>
      answered { T with pendingSlot := if gone p then none else some p }
        (if y.word (y.bookAddr p) = 0x07FF then 16 else 21)
    | none => answered T 21
  | .changeActive =>
    match T.pendingSlot with
    | some p =>
      if y.word (y.bookAddr p) = 0x0FFF then { still with tariff := { T with change := some .toRetire } }
      else { still with tariff := { T with change := none, retry := true }, releases := true }
    | none => { still with tariff := { T with change := none }, releases := true }
  | .changeRetire old =>
    { still with
      tariff := { T with
        inForce := T.pendingSlot, pendingSlot := none
        stale := if reads old = .active then some old else none, change := some .toFill } }
  | .staleRetire old =>
    { still with
      tariff := { T with stale := if gone old = true ∧ T.stale = some old then none else T.stale } }
  | .startRetire old =>
    { still with tariff := { T with stale := if y.word (y.bookAddr old) = 0x07FF then T.stale else some old } }
  | .startRejectPending reason => { still with rejected := some reason }
  | .rejectOnly | .startReject => still

/-- The programmer with these jobs to do and no operation in flight, FBUSY being as given (R74, log 23). -/
def State.progWith (s : State) (fbusy : Bool) : List FlashJob → Programmer
  | [] => { job := none, waitsFbusy := false, timer := none, jobs := [] }
  | j :: rest => { job := some j, waitsFbusy := fbusy, timer := some s.cfg.flashWaitMs, jobs := rest }

/-- The flash when that programmer has taken its first job: the command writes are made unless FBUSY is asserted. -/
def flashWith (f : FlashPins) : List FlashJob → FlashPins
  | [] => f
  | j :: _ => if f.fbusy then f else { fbusy := true, op := some j.op }

/-- An OPEN that waited for the changeover is taken as if it had just arrived (R5, R83). -/
def State.openReleased (u : State) : State :=
  if u.sale.waitOpen then { u with sale.waitOpen := false }.openChecks else u

/-- A fault of a class whose condition voids a sale is raised (R153 to R156, R161): its record and attention, and
with the route STOP its condition, which voids an OPEN sale with reason STOPPED. `after` is what happens to the
sources afterwards; `changed` names what else changes. -/
def State.StopRaised (s t : State) (cls : FaultClass) (k : Condition) (detail : Word)
    (after : Sources → Sources) (changed : List Part) : Prop :=
  let stops := (s.routeOf cls).route = .stop ∧ k ∉ s.fault.stop
  let voided := stops ∧ s.sale.state = .opened
  let u := s.voidedSale .stopped (if s.sale.waitCommit then 17 else s.sale.saleCmd)
  s.Effect t none (if voided then [.saleResp, .tenderResp] else [])
      ([.fault] ++ changed ++ if voided then [.sale, .cash, .permit, .engine] else [])
      (if voided then s.handWrites u else [])
    ∧ (voided → s.VoidBegun t u)
    ∧ s.Recorded t cls 0 detail
    ∧ t.fault = { s.fault with
        list := t.fault.list, seq := t.fault.seq
        stop := if stops then s.fault.stop ++ [k] else s.fault.stop
        sources := after (s.attended cls 4 (decide voided)) }

/-! ## The memory port -/

/-- The host access that a command is, if it is one. -/
def State.accessOf (s : State) : Instr → Option Access
  | .hostPassThrough a => some a
  | .heldRead w hi lo | .delayedReadRepeat w hi lo => some { word := w, hi := hi, lo := lo, data := none }
  | .inputCellWrite w hi lo d | .ownedCellWrite w hi lo d | .bookWindowWrite w hi lo d =>
    some { word := w, hi := hi, lo := lo, data := some d }
  | .permitNo second hi lo d =>
    some { word := s.cellAddr (if second then .permitNoHigh else .permitNoLow), hi := hi, lo := lo, data := some d }
  | .timeLo hi lo d => some { word := s.cellAddr .timeLo, hi := hi, lo := lo, data := some d }
  | .jexportLow hi lo d => some { word := s.cellAddr .jexportLow, hi := hi, lo := lo, data := some d }
  | .attnTake hi lo => some { word := s.cellAddr .attnTake, hi := hi, lo := lo, data := none }
  | .openSale => cell .saleCmd 1
  | .commit => cell .saleCmd 2
  | .abandon => cell .saleCmd 3
  | .clear => cell .saleCmd 4
  | .saleCmdUnknown v => cell .saleCmd v
  | .coinIn v => cell .coinIn v
  | .cardIn v => cell .cardIn v
  | .check => cell .permitReq 1
  | .drop => cell .permitReq 2
  | .permitReqUnknown v => cell .permitReq v
  | .time v => cell .timeHi v
  | .salesOff h => cell .serviceCmd (mkWord h 1)
  | .salesOn h => cell .serviceCmd (mkWord h 2)
  | .clearStop h => cell .serviceCmd (mkWord h 3)
  | .serviceCmdUnknown v => cell .serviceCmd v
  | .authorise => cell .collectCmd 1
  | .clearIntrusion => cell .collectCmd 2
  | .collectCmdUnknown v => cell .collectCmd v
  | .installBegin => cell .bookCmd 1
  | .installEnd => cell .bookCmd 2
  | .installAbort => cell .bookCmd 3
  | .cancelPending => cell .bookCmd 4
  | .bookCmdUnknown v => cell .bookCmd v
  | .pop => cell .faultCmd 1
  | .faultCmdUnknown v => cell .faultCmd v
  | .report v | .reportBadCode v => cell .reportCmd v
  | .attnEos v => cell .attnEos v
  | .attnEnable v => cell .attnEnable v
  | .jexport v => cell .jexportHigh v
  | .pexport v => cell .pexport v
  | .amendTail v => cell .amendTail v
  | _ => none
where
  /-- A word write to a named cell. -/
  cell (c : Cell) (v : Word) : Option Access :=
    some { word := s.cellAddr c, hi := true, lo := true, data := some v }

/-- A host access reaches memory (R26 to R33, R41, R42, R44, R46): it is ended neither RETRY nor ERROR, nor from
the delayed-read slot, nor by an attention take, nor by the programmer. -/
def State.Reaches (s : State) (a : Access) : Prop :=
  let repeated (r : Latched) := r.word = a.word ∧ r.size = sizeOf a.hi a.lo
  let held (p : Window × Nat) := ∃ g, groupAt p = some g ∧ g ∈ s.path.owed
  s.start.phase ≠ .held ∧ (a.hi || a.lo) = true
    ∧ (s.path.mode = .starting → a.data = none ∧ s.flashHolds a.word = false)
    ∧ (s.path.mode = .running → s.flashHolds a.word = false
        ∧ (a.data = none →
            (∀ r, s.path.slot = .waiting r → ¬ repeated r)
            ∧ (∀ r v n, s.path.slot = .complete r v n → ¬ repeated r)
            ∧ ∀ p, s.placeOf a.word = some p → cellAt p ≠ some .attnTake ∧ ¬ held p)
        ∧ (a.data ≠ none → ∀ p, s.placeOf a.word = some p → p.1 ≠ .book
            ∧ ((s.kindAt p = .input ∧ ¬ held p)
              ∨ (s.kindAt p = .command ∧ a.hi = true ∧ a.lo = true
                  ∧ (held p → cellAt p = some .permitReq)))))

/-- The arbiter once a waiting host access has been granted (R42): an engine that waits goes first when the host has
had eight grants. -/
def Arbiter.afterHost (b : Arbiter) (waits : Engine → Bool) : Arbiter :=
  match b.pointer.circle.find? waits with
  | none => { b with granted := some .host }
  | some e =>
    if b.count < 8 then { b with granted := some .host, count := b.count + 1 }
    else { granted := some .host, pointer := e.next, count := 1 }

/-- The arbiter once these engines have been granted, in this order (R42). -/
def Arbiter.afterEngines (b : Arbiter) (es : List Engine) : Arbiter :=
  match es.getLast? with
  | none => b
  | some e => { granted := some (.engine e), pointer := e.next, count := 0 }

/-- The engines that use the port in a step from `s` to `t` after its own words, `own` of those driven (R42 to R44,
R74, log 13): the cash writer for every further word, the tariff unit for the flash command writes, FBUSY being
asserted anew; and in a step that carries start-up on the engine of the point it comes to. `free` says that
FBUSY has fallen within the step. -/
def State.engines (s t : State) (own : Nat) (free : Bool) : List Engine :=
  if t.start.phase = s.start.phase then
    (if own < t.driven.length then [.cashWriter] else [])
      ++ if (free || !s.flash.fbusy) && t.flash.fbusy then [.tariffUnit] else []
  else
    match t.start.phase with
    | .held | .waitFbusy => []
    | .books _ => [.tariffUnit]
    | .waitClose | .waitPeriod => [.cashWriter]
    | .waitOwed => [.permitUnit]
    | .waitLines | .done => [.startUpReader]

/-- The engines that use the port in a command that is no host access, from `s` to `t`, in the order of their last
use. -/
def State.enginesOf (s t : State) (c : Instr) : List Engine :=
  let one (e : Engine) (b : Bool) : List Engine := if b then [e] else []
  let drives := !t.driven.isEmpty
  let holds (k : LockKind) := s.permit.lock.holder == some k
  let up := !s.fault.stop.contains .rollDown
  let searches (p : SearchPhase → Bool) := holds .search && !s.permit.dying && s.permit.search.any fun q => p q.phase
  let T := s.tariff
  let idle := T.prog.job.isNone && T.prog.jobs.isEmpty
  let readsBack := one .tariffUnit (T.prog.job.any fun j => j.use != .beginErase && j.use != .hostWord)
  match c with
  | .groupWrite =>
    one .groupWriter drives
      ++ s.engines t (match s.path.ready with
          | .group g :: _ => g.places.length
          | _ => 0) false
  | .imageRewrite => one .groupWriter drives
  | .searchSeek => one .permitUnit (searches fun p => p == .seek || (p == .waiting && up))
  | .searchScan => one .permitUnit (searches fun p => p == .scan)
  | .commitPermitStep =>
    one .permitUnit (s.sale.permit.isSome && s.sale.state == .committing && s.sale.permitPart.isNone
        && holds .commitStep && up)
      ++ s.engines t 0 false
  | .add | .replace | .revoke | .delete | .rollClear | .badOp => one .permitUnit drives
  | .scrubStep => one .permitUnit (holds .scrub && up)
  | .changeover => one .tariffUnit (idle && T.change == some .toFill) ++ s.engines t 0 false
  | .dailyCheck =>
    one .tariffUnit (T.checkDue && T.change.isNone && idle && T.inForce.isSome) ++ s.engines t 0 false
  | .flashOpEnd =>
    let ends := T.prog.job.isSome && !T.prog.waitsFbusy && s.flash.fbusy
    (if ends then readsBack else []) ++ s.engines t 0 ends
  | .flashWaitLimit _ =>
    (if T.prog.timer = some 0 ∧ s.flash.fbusy = true then readsBack else []) ++ s.engines t 0 false
  | .fbusyDeasserted _ => s.engines t 0 (s.flash.fbusy && (T.prog.job.isNone || T.prog.waitsFbusy))
  | .minuteMark | .idleTimeout | .authorisationEnd =>
    one .tariffUnit (t.time.minute != s.time.minute && s.path.mode == .running && T.pendingSlot.isSome && !T.due
        && T.hand != some .cancelPending)
      ++ s.engines t 0 false
  | .commitWaitEnd | .closeStep | .closeEnd | .periodClose | .periodCloseStep | .lineChange _ | .startUp
  | .fbusyWaitLimit | .lineSettled _ | .lineSettleLimit => s.engines t 0 false
  | _ => []

/-! ## The roll along a chain -/

/-- The bucket header of bucket `b` names it, with its complement (R89, R98). -/
def State.named (s : State) (b : BitVec 9) : Bool :=
  s.word (s.bucketAddr b) == BitVec.ofNat 16 b.toNat
    && s.word (s.bucketAddr b + 2) == 0xFFFF - BitVec.ofNat 16 b.toNat

/-- Its check word is good as well: it verifies (R98). -/
def State.verified (s : State) (b : BitVec 9) : Bool :=
  s.named b && s.word (s.bucketAddr b + 14) == crc (s.words (s.bucketAddr b) 7)

/-- Words written to memory, with the permit unit as it then is. -/
def State.wrote (s : State) (ws : List (Nat × Word)) (p : PermitUnit) : State :=
  { s with permit := p, mem := s.mem.writeAll ws, driven := ws.reverse ++ s.driven }

/-- A bucket's header rewritten from its slots with its overflow flag kept, and the record count with it (R112). -/
def State.rewritten (s : State) (b : BitVec 9) : State :=
  s.wrote (s.headerWrites b (s.occupied b) (s.overflowOf b))
    { s.permit with recordCount := s.countWith s.permit.recordCount b (s.occupied b) }

/-- A bucket met by a walk: in restart mode a header whose check word alone is bad is rewritten (R119). -/
def State.met (s : State) (restart : Bool) (b : BitVec 9) : State :=
  if restart && !s.verified b then s.rewritten b else s

/-- The target in a bucket (R112): its first slot that is neither EMPTY nor VACATED and holds the number. -/
def State.targetIn (s : State) (b : BitVec 9) (number : DWord) : Option Nat :=
  (List.range 8).find? fun k =>
    recStatus (s.slotWords b k) != 0 && recStatus (s.slotWords b k) != 3 && recNumber (s.slotWords b k) == number

/-- A slot of a bucket is EMPTY or VACATED. -/
def State.roomIn (s : State) (b : BitVec 9) : Bool :=
  (List.range 8).any fun k => recStatus (s.slotWords b k) == 0 || recStatus (s.slotWords b k) == 3

/-- The recount after an operation of restart mode (R119): each bucket walked whose occupied count differs from its
slots is rewritten, and the record count is the sum of the 512 occupied counts (log 10). -/
def State.recounted (s : State) (walked : List (BitVec 9)) : State :=
  let t := walked.foldl
    (fun y b => if (y.word (y.bucketAddr b + 4)).toNat = y.occupied b then y else y.rewritten b) s
  { t with permit.recordCount :=
      sum16 (((List.range 512).map fun b => (t.word (t.bucketAddr (BitVec.ofNat 9 b) + 4)).toNat).sum) }

/-- An image and a record are equal in number, category, zone list, dates, allowance and holder (R119, R191). -/
def EqualFields (image record : List Word) : Prop :=
  let same (k : Nat) := wordOf image k = wordOf record k
  recNumber image = recNumber record ∧ recCategory image = recCategory record
    ∧ recZoneCount image = recZoneCount record
    ∧ (recZones image).take (recZoneCount image) = (recZones record).take (recZoneCount image)
    ∧ same 6 ∧ same 7 ∧ same 8 ∧ same 11 ∧ same 12 ∧ same 13 ∧ same 14

/-- The buckets of a walk and its end (R91, R112, R119). From the home bucket the walk goes on to the next bucket
while the one before holds no target, has its overflow flag set, and fewer buckets than the probe limit have been
examined. `before n` is the part as the walk finds it at its bucket `n`. -/
def State.Walks (s : State) (restart : Bool) (number : DWord) (w : Walk) : Prop :=
  let bucket (k : Nat) : BitVec 9 := BitVec.ofNat 9 (number.toNat % 512 + k)
  let before (n : Nat) : State := (List.range n).foldl (fun y k => y.met restart (bucket k)) s
  let passes (n : Nat) := ((before n).verified (bucket n) || (restart && (before n).named (bucket n))) = true
  let target (n : Nat) := (before (n + 1)).targetIn (bucket n) number
  let flag (n : Nat) := (before (n + 1)).word ((before (n + 1)).bucketAddr (bucket n) + 6) ≠ 0
  let goes (n : Nat) := passes n ∧ target n = none ∧ flag n
  let ends (n : Nat) (finish : WalkEnd) (y : State) :=
    w = { state := y, seen := (List.range n).map bucket, finish := finish }
  ∀ n, (∀ k < n, goes k) →
    (n = s.cfg.probeLimit → ends n .absent (before n))
    ∧ (n < s.cfg.probeLimit →
        (¬ passes n → ends n (.failed (bucket n)) (before n))
        ∧ (∀ k, passes n → target n = some k → ends (n + 1) (.target (bucket n) k) (before (n + 1)))
        ∧ (passes n → target n = none → ¬ flag n → ends (n + 1) .absent (before (n + 1))))

/-- The further buckets of a chain that an ADD looks at when those walked have no room (R113, R119): each is met as in
the walk, until one has room or `fuel` buckets have been looked at. -/
def Walk.Extends (w v : Walk) (restart : Bool) (fuel : Nat) (next : BitVec 9) : Prop :=
  let bucket (k : Nat) : BitVec 9 := next + BitVec.ofNat 9 k
  let before (n : Nat) : State := (List.range n).foldl (fun y k => y.met restart (bucket k)) w.state
  let passes (n : Nat) := ((before n).verified (bucket n) || (restart && (before n).named (bucket n))) = true
  let room (n : Nat) := (before (n + 1)).roomIn (bucket n) = true
  let ends (n : Nat) (finish : WalkEnd) (y : State) :=
    v = { state := y, seen := w.seen ++ (List.range n).map bucket, finish := finish }
  ∀ n, (∀ k < n, passes k ∧ ¬ room k) →
    (n = fuel → ends n .absent (before n))
    ∧ (n < fuel → (¬ passes n → ends n (.failed (bucket n)) (before n))
        ∧ (passes n → room n → ends (n + 1) .absent (before (n + 1))))

/-! ## Books -/

/-- A band that the checks of R72 pass, in a book's word format. -/
def Band.Sound (b : Band) : Prop :=
  let treats (x : Byte) := x.toNat ≤ 100 ∨ x = 255
  b.rate < 0x10000 ∧ b.unit < 0x10000
    ∧ (b.kind = .charged → b.rate ≠ 0 ∧ 1 ≤ b.unit ∧ b.unit ≤ 1440)
    ∧ treats b.resident ∧ treats b.visitor ∧ treats b.trade

/-- A zone section that the checks of R72 pass, with the counts of R71. -/
def ZoneSection.Sound (z : ZoneSection) : Prop :=
  z.defaultRounding ≠ .fromBook ∧ 1 ≤ z.maxStay ∧ z.maxStay ≤ 1440 ∧ z.minCharge < 0x10000
    ∧ z.weekdays.length = 7 ∧ (∀ d ∈ z.weekdays, d < z.dayTypes.length)
    ∧ z.exceptions.length ≤ 16 ∧ (∀ e ∈ z.exceptions, e.1 < 0x10000 ∧ e.2 < z.dayTypes.length)
    ∧ 1 ≤ z.dayTypes.length ∧ z.dayTypes.length ≤ 4
    ∧ ∀ bands ∈ z.dayTypes, 1 ≤ bands.length ∧ bands.length ≤ 12
        ∧ (∀ b ∈ bands, b.Sound ∧ b.start ≤ 1439)
        ∧ bands.head?.map Band.start = some 0 ∧ bands.Pairwise (fun a b => a.start < b.start)

/-- The code of a rounding mode (R58, R190). -/
def Rounding.code : Rounding → Nat
  | .down => 0
  | .up => 1
  | .nearestTiesUp => 2
  | .nearestTiesDown => 3
  | .fromBook => 7

/-- The code of a band kind (R190). -/
def BandKind.code : BandKind → Nat
  | .charged => 1
  | .free => 2
  | .noParking => 3

/-- The six words of a band, its spare byte 0 (R190). -/
def Band.words (b : Band) : List Word :=
  [BitVec.ofNat 16 b.start, BitVec.ofNat 16 (b.kind.code * 256 + b.rounding.code), BitVec.ofNat 16 b.rate,
   BitVec.ofNat 16 b.unit, mkWord b.resident b.visitor, mkWord b.trade 0]

/-- The words of a zone section (R71). -/
def ZoneSection.words (z : ZoneSection) : List Word :=
  let w (n : Nat) : Word := BitVec.ofNat 16 n
  [w z.defaultRounding.code, w z.maxStay, w z.minCharge, w z.dayTypes.length] ++ z.weekdays.map w
    ++ [w z.exceptions.length] ++ z.exceptions.flatMap (fun e => [w e.1, w e.2])
    ++ z.dayTypes.flatMap (fun bands => w bands.length :: bands.flatMap Band.words)

/-! ## Resets and start-up -/

/-- The command does this piece of work and nothing more (R47). -/
def State.Does (s : State) (w : Work) (c : Instr) : Prop :=
  match w with
  | .host a => c = .hostPassThrough a
  | .groupWrite => c = .groupWrite
  | .imageRewrite => c = .imageRewrite
  | .commitWaitEnd => c = .commitWaitEnd
  | .commitPermitStep => c = .commitPermitStep
  | .amendment =>
    (c = .add ∧ s.Applies 1) ∨ (c = .replace ∧ s.Applies 2) ∨ (c = .revoke ∧ s.Applies 3)
      ∨ (c = .delete ∧ s.Applies 4) ∨ (c = .rollClear ∧ s.Applies 5)
      ∨ (c = .badOp ∧ ∃ op, (op = 0 ∨ 5 < op) ∧ s.Applies op)
  | .closeStep => c = .closeStep
  | .closeEnd => c = .closeEnd
  | .periodClose => c = .periodClose
  | .periodCloseStep => c = .periodCloseStep
  | .lineChange l => c = .lineChange l
  | .minuteMark => c = .minuteMark
  | .changeover => c = .changeover
  | .dailyCheck => c = .dailyCheck
  | .startUp => c = .startUp
  | .flashOpEnd => c = .flashOpEnd
  | .flashWaitLimit left => c = .flashWaitLimit left
  | .fbusyWaitLimit => c = .fbusyWaitLimit
  | .fbusyDeasserted left => c = .fbusyDeasserted left
  | .lineSettled l => c = .lineSettled l
  | .lineSettleLimit => c = .lineSettleLimit

/-- RECOVERY is raised with these details, in order (R183). -/
def recoveries (details : List Word) : List (FaultClass × Byte × Word) :=
  details.map fun d => (.recovery, 0, d)

/-- The fault unit after RECOVERY has been raised with these details (R153 to R156, R183). -/
def State.Recovered (s t : State) (details : List Word) : Prop :=
  s.RecordedAll t (recoveries details)
    ∧ t.fault = { s.fault with
        list := t.fault.list, seq := t.fault.seq
        sources := details.foldl
          (fun q _ => ({ s with fault.sources := q } : State).attended .recovery 4 false) s.fault.sources }

/-- What replaying the step after step-done value `n` writes, from the intent's words `ws` (R133, R134, R147, R180);
`y` is the part as the step finds it. -/
def State.replayWrites (y : State) (ws : List Word) (n : Nat) : List (Nat × Word) :=
  let kind := (wordOf ws 4).toNat
  let number := dwordOf ws 2
  let journal := (ws.drop 8).take 24
  let period := (ws.drop 32).take 64
  let box := (ws.drop 96).take 12
  let bucket := wordOf ws 5
  let stepDone (k : Nat) : List (Nat × Word) := [(y.at .cash 33, BitVec.ofNat 16 k)]
  if kind = 3 then
    let fresh : PeriodRecord :=
      { PeriodRecord.zero with
        number := sum32 ((dwordOf period 0).toNat + 1), opened := dwordOf period 4 }
    match n with
    | 0 => runWrites (y.at .cash (160 + 64 * ((number.toNat + 15) % 16))) period ++ stepDone 1
    | 1 => runWrites (y.at .cash 1184) (fresh.body ++ [crc fresh.body]) ++ stepDone 2
    | 2 => runWrites (y.at .cash 0) box ++ stepDone 3
    | _ => [(y.at .cash 17, loWord fresh.number), (y.at .cash 22, 0)] ++ stepDone 4 ++ [(y.at .cash 32, 0)]
  else
    match n with
    | 0 => runWrites (y.at .cash (1248 + 24 * (number.toNat % 512))) journal ++ stepDone 1
    | 1 => runWrites (y.at .cash 1184) period ++ stepDone 2
    | 2 => (if kind = 1 then runWrites (y.at .cash 0) box else []) ++ stepDone 3
    | 3 =>
      (if bucket = 0xFFFF then []
       else y.recordWrites (bucket.setWidth 9) ((wordOf ws 6).toNat % 8) ((ws.drop 112).take 16))
        ++ stepDone 4
    | 4 =>
      let refund := wordOf journal 16
      let flags : Word :=
        BitVec.ofNat 16 ((if bucket = 0xFFFF then 0 else 1) + (if refund = 0 then 0 else 2)
          + (if kind = 1 ∧ wordOf journal 15 ≠ 0 then 4 else 0))
      y.writesWith .saleResp
          ([if kind = 1 then 16 else y.cellWord .sale 0, if kind = 1 then 4 else 5, loWord number,
            hiWord number, refund, wordOf journal 3, flags])
        ++ y.writesWith .tenderResp
            ([y.cellWord .sale 4, y.cellWord .sale 5,
              sum16 ((wordOf journal 12).toNat + (wordOf journal 13).toNat), 0, 0] ++ List.replicate 8 0)
        ++ stepDone 5
    | _ =>
      let next := sum32 (number.toNat + 1)
      [(y.at .cash 12, loWord next), (y.at .cash 13, hiWord next), (y.at .cash 16, 0)] ++ stepDone 6
        ++ [(y.at .cash 32, 0)]

/-- What replaying the steps with these step-done values writes, each step upon what the ones before left. -/
def State.replayed (s : State) (ws : List Word) (steps : List Nat) : List (Nat × Word) :=
  steps.foldl (fun w n => w ++ { s with mem := s.mem.writeAll w }.replayWrites ws n) []

/-- A cash unit with its records reloaded, the writes made and the details of RECOVERY (R181). -/
structure Reload where
  cash : CashUnit
  writes : List (Nat × Word)
  details : List Word

/-- The reload of the open period, the tally, the indices, and their checks (R181). -/
def State.reloaded (s : State) : Reload :=
  let upon (w : List (Nat × Word)) : State := { s with mem := s.mem.writeAll w }
  let body := s.words (s.at .cash 1184) 63
  let badPeriod := s.word (s.at .cash 1247) ≠ crc body
  let p := PeriodRecord.ofWords (s.words (s.at .cash 1184) 64)
  let w1 := if badPeriod then [(s.at .cash 1247, crc body)] else []
  let y := upon w1
  let tally := y.words (s.at .cash 0) 11
  let badTally := y.word (s.at .cash 11) ≠ crc tally
  let rebuilt : Tally :=
    { counts := p.vaulted, coins := sum16 p.vaulted.total, value := sum32 (penceOf p.vaulted s.cfg.denoms) }
  let k := if badTally then rebuilt else Tally.ofWords tally
  let w2 := w1 ++ if badTally then runWrites (s.at .cash 0) (rebuilt.body ++ [crc rebuilt.body]) else []
  let z := upon w2
  let next := z.cellDWord .cash 12
  let mark := z.cellDWord .cash 14
  let pnext := z.cellWord .cash 17
  let pmark := z.cellWord .cash 18
  let badJournal :=
    ¬ (1 ≤ next.toNat ∧ mark.toNat < next.toNat ∧ next.toNat - mark.toNat ≤ 513)
  let badPeriods :=
    ¬ (1 ≤ pnext.toNat ∧ pnext.toNat = p.number.toNat ∧ pmark.toNat < pnext.toNat
      ∧ pnext.toNat - pmark.toNat ≤ 17)
  let fresh : PeriodRecord := { PeriodRecord.zero with number := 1, opened := s.minuteOrNone }
  { cash := { s.cash with
      period := if badPeriods then fresh else p
      tally := if badPeriods then Tally.zero else k
      nearLatch := !decide badPeriods
        && decide ((s.cfg.capacity * s.cfg.nearPercent + 99) / 100 ≤ k.coins.toNat)
      nextSeq := if badJournal then 1 else next
      exportMark := if badJournal then 0 else mark
      pnext := if badPeriods then 1 else pnext
      pexport := if badPeriods then 0 else pmark }
    writes := w2
      ++ (if badJournal then
            [(s.at .cash 12, 1), (s.at .cash 13, 0), (s.at .cash 14, 0), (s.at .cash 15, 0)] else [])
      ++ (if badPeriods then
            runWrites (s.at .cash 1184) (fresh.body ++ [crc fresh.body])
              ++ runWrites (s.at .cash 0) (List.replicate 11 0 ++ [crc (List.replicate 11 0)])
              ++ [(s.at .cash 17, 1), (s.at .cash 18, 0)] else [])
    details := (if badPeriod then [0x500] else []) ++ (if badTally then [0x600] else [])
      ++ (if badJournal then [0x900] else []) ++ if badPeriods then [0x900] else [] }

/-! ## The order of start-up's steps (R179 to R183, R87, log 24) -/

/-- The procedure at a point. -/
def State.at_ (s : State) (p : StartPhase) : State := { s with start.phase := p }

/-- Step 9 (R183), after which step 10 waits for the pending set to be empty. -/
def State.fromQueue (s : State) : State := s.resumeQueue.at_ .waitOwed

/-- Steps 7 and 8 (R182), and then step 9 unless a period close has been taken. -/
def State.fromLines (s : State) : State :=
  let t := s.rebuildStops.deriveCompartment.takePeriodClose
  if t.cash.close = none then t.fromQueue else t.at_ .waitPeriod

/-- Step 7 waits for every line to have a debounced level (R182). -/
def State.fromSale (s : State) : State :=
  if s.lines.door.level ≠ none ∧ s.lines.box.level ≠ none ∧ s.lines.key.level ≠ none then s.fromLines
  else s.at_ .waitLines

/-- Step 3, step 4, and steps 5 and 6, in this order (R118, R180, R181); a void of step 5 is waited for. -/
def State.fromBooks (s : State) : State :=
  let t := s.checkRollHeader.replayIntent.recoverSale
  if t.cash.close = none then t.fromSale else t.at_ .waitClose

/-- After a close has ended in start-up (R181, R182): what waits for it goes on, unless another is in hand. -/
def State.goneOn (s : State) : State :=
  if s.cash.close ≠ none then s
  else if s.start.phase = .waitClose then s.fromSale
  else if s.start.phase = .waitPeriod then s.fromQueue
  else s

/-- A slot is marked and the procedure waits for the marking (R68, R87). -/
def State.marked (s : State) (slot : BookSlot) (value : Word) (use : FlashUse) (stage : BookStage) : State :=
  let j := s.marking slot value use
  { s with tariff.prog := s.progAsked j, flash := s.flashAsked j, start.phase := .books stage }

/-- The word at word `k` of a slot. -/
def State.slotWord (s : State) (slot : BookSlot) (k : Nat) : Word := s.word (s.bookAddr slot + 2 * k)

/-- Step 2, part 4 (R87): each of these slots that reads VALID is validated as a pending book: it becomes the pending
slot, or is marked REJECTED. -/
def State.fromValid (s : State) : List BookSlot → State
  | [] => s.fromBooks
  | slot :: rest =>
    if s.slotWord slot 0 = 0x1FFF then
      match s.validate slot true with
      | .passes _ => { s with tariff.pendingSlot := some slot, tariff.due := false }.fromValid rest
      | .fails reason => s.marked slot 0 (.startRejectPending (BitVec.ofNat 16 reason)) (.pendings rest)
    else s.fromValid rest

/-- Step 2, part 3 (R87): the cache is filled from the slot in force; TARIFF_BAD is raised with the reason of a
failed fill and leaves the stop set after a good one. -/
def State.fromInForce (s : State) : State :=
  let t : State :=
    match s.tariff.inForce with
    | some f =>
      match s.validate f false with
      | .passes copy => { s with tariff.cache := some copy }.removeCondition .tariffBad
      | .fails reason => { s with tariff.cache := none }.raise .tariffBad (BitVec.ofNat 16 reason)
    | none => s
  t.fromValid [.a, .b]

/-- Step 2, part 2 (R87): the slot in force is the one that reads ACTIVE, or of two the one with the later effective
minute, slot A if they are equal, the other then being marked RETIRED; with none TARIFF_BAD is raised (NO_BOOK). -/
def State.fromActive (s : State) : State :=
  let active (x : BookSlot) := s.slotWord x 0 = 0x0FFF
  let from_ (x : BookSlot) : Nat := (s.slotWord x 2).toNat + 65536 * (s.slotWord x 3).toNat
  if active .a ∧ active .b then
    let other : BookSlot := if from_ .a < from_ .b then .a else .b
    { s with tariff.inForce := some other.other }.marked other 0x07FF (.startRetire other) .retiring
  else if active .a then { s with tariff.inForce := some .a }.fromInForce
  else if active .b then { s with tariff.inForce := some .b }.fromInForce
  else (s.raise .tariffBad 18).fromInForce

/-- Step 2, part 1 (R87): each of these slots that reads WRITING or LOADED is marked REJECTED. -/
def State.fromConfig (s : State) : List BookSlot → State
  | [] => s.fromActive
  | slot :: rest =>
    if s.slotWord slot 0 = 0x7FFF ∨ s.slotWord slot 0 = 0x3FFF then
      s.marked slot 0 .startReject (.rejecting rest)
    else s.fromConfig rest

/-- Step 2 after a marking has ended: what its use says, and then the rest of step 2 (R87). A slot whose RETIRED
marking failed is the stale slot; a pending book marked REJECTED raises BOOK_REJECTED with its reason. -/
def State.fromMarking (s : State) (use : FlashUse) (stage : BookStage) : State :=
  let t : State :=
    match use with
    | .startRetire old =>
      if s.slotWord old 0 = 0x07FF then s else { s with tariff.stale := some old }
    | .startRejectPending reason => s.raise .bookRejected reason
    | _ => s
  match stage with
  | .rejecting rest => t.fromConfig rest
  | .retiring => t.fromInForce
  | .pendings rest => t.fromValid rest

/-! ## The section's checks (R71, R72) -/

/-- The checks of a band at word `p`, in word order, each with its reason; `before` is the start of the band before
it in its day type. -/
def bandChecks (r : Nat → Word) (p : Nat) (before : Option Nat) : List (Nat × Bool) :=
  let w (k : Nat) : Nat := (r (p + k)).toNat
  let kind := w 1 / 256
  let rounding := w 1 % 256
  let bad (treatment : Nat) : Bool := decide (101 ≤ treatment ∧ treatment ≤ 254)
  [(11, match before with
        | none => w 0 != 0
        | some b => decide (1439 < w 0 ∨ w 0 ≤ b)),
   (12, decide (kind < 1 ∨ 3 < kind ∨ (3 < rounding ∧ rounding ≠ 7))),
   (13, decide (kind = 1 ∧ w 2 = 0)),
   (13, decide (kind = 1 ∧ (w 3 = 0 ∨ 1440 < w 3))),
   (14, bad (w 4 / 256) || bad (w 4 % 256)),
   (14, bad (w 5 / 256)),
   (15, w 5 % 256 != 0)]

/-- The word at which day type `n` of a section at word `o` begins: its band count. -/
def dayTypePlace (r : Nat → Word) (o n : Nat) : Nat :=
  Nat.repeat (fun p => p + 1 + 6 * (r p).toNat) n (o + 12 + 2 * (r (o + 11)).toNat)

/-- The checks of a section at word `o`, in word order, each with its reason. -/
def sectionChecks (r : Nat → Word) (o : Nat) : List (Nat × Bool) :=
  let w (k : Nat) : Nat := (r (o + k)).toNat
  [(7, decide (3 < w 0)), (6, decide (w 1 < 1 ∨ 1440 < w 1)), (8, decide (w 3 < 1 ∨ 4 < w 3))]
    ++ (List.range 7).map (fun i => (8, decide (w 3 ≤ w (4 + i))))
    ++ [(9, decide (16 < w 11))]
    ++ (List.range (w 11)).map (fun i => (8, decide (w 3 ≤ w (13 + 2 * i))))
    ++ (List.range (w 3)).flatMap fun n =>
        let p := dayTypePlace r o n
        let bands := (r p).toNat
        (10, decide (bands < 1 ∨ 12 < bands))
          :: (List.range bands).flatMap fun i =>
              bandChecks r (p + 1 + 6 * i) (if i = 0 then none else some (r (p + 1 + 6 * (i - 1))).toNat)

end Sys2Proof.Machine
end

