-- ==== Sys2Proof/Certificates/Slice0/Obligations.lean ====
section
/-! DEFINITION. The statements for the provers. -/

open Sys2Proof Sys2Proof.Machine

/-! ## The machine -/

/-- A step with a command at the front of the queue is the command's meaning on the queue's rest. -/
def Obligations.StepRunsTheCommandAtTheFront : Prop :=
  ∀ (c : Instr) (q : List Instr) (s : State),
    step (s.withPending (c :: q)) = exec c (s.withPending q)

/-- On an empty queue a step is one millisecond: every running timer counts down to 0, and nothing else changes (the
model's choice, log 5). -/
def Obligations.EmptyQueuePassesAMillisecond : Prop :=
  ∀ s : State, s.pending = [] →
    let less (timer : Option Nat) := timer.map fun n => n - 1
    let counted (r : LineRegs) : LineRegs := { r with timer := less r.timer }
    ∃ t, step s = .next t ∧ s.KeepsBut t [.slot, .tariff, .lines, .start]
      ∧ t.path.slot =
          (match s.path.slot with
           | .complete read value timer => .complete read value (timer - 1)
           | other => other)
      ∧ t.tariff = { s.tariff with prog.timer := less s.tariff.prog.timer }
      ∧ t.lines = { door := counted s.lines.door, box := counted s.lines.box, key := counted s.lines.key
                    settleLimit := less s.lines.settleLimit }
      ∧ t.start = { s.start with fbusyLimit := less s.start.fbusyLimit }
      ∧ t.path.arb = s.path.arb ∧ t.mem = s.mem ∧ t.pending = []

/-- The state after reset meets both invariants. -/
def Obligations.ResetMeetsTheInvariants : Prop := State.reset.Canonical ∧ State.reset.Bounded

/-- Every step keeps memory in its canonical form. -/
def Obligations.EveryStepKeepsMemoryCanonical : Prop :=
  ∀ s t : State, s.Canonical → step s = .next t → t.Canonical

/-- Every step keeps the pending set, the ready order and the stop set free of repeats, the fault list at most ten
records long, the arbiter's count at most 8 and the probe limit at most 8. -/
def Obligations.EveryStepKeepsSetsAndLimits : Prop :=
  ∀ s t : State, s.Bounded → step s = .next t → t.Bounded

/-- Every command but the resets and the flash device's own events changes memory by exactly the word writes it drives
on the memory port. -/
def Obligations.MemoryChangesOnlyByDrivenWrites : Prop :=
  ∀ (c : Instr) (s t : State),
    (∀ k, c ≠ .powerOn k) → (∀ k, c ≠ .hostReset k) → c ≠ .flashOpEnd → (∀ l, c ≠ .flashWaitLimit l) →
      (∀ l, c ≠ .fbusyDeasserted l) →
        exec c s = .next t → t.mem = s.mem.writeAll t.driven.reverse

/-- A command never changes the queue. -/
def Obligations.NoCommandChangesTheQueue : Prop :=
  ∀ (c : Instr) (s : State), ∃ t, exec c s = .next t ∧ t.pending = s.pending

/-! ## The sale unit -/

/-- OPEN accepted in IDLE (R6, R130): the journal slot is reserved, its sequence is the sale number, and a price run
starts with nothing tendered and no permit; JOURNAL_FULL is raised when no free slot is left, its record showing the
state before OPEN and sale number 0, so that its attention is not delegated (log 18, DEDUCED). OPEN refused or kept
waiting in IDLE (R5): it waits for a changeover; then STOPPED (18) comes before JOURNAL_FULL (19), and the context
stays IDLE. -/
def Obligations.OpenInIdleIsDecidedInOrder : Prop :=
  (∀ s : State, s.Takes .saleCmd → s.sale.state = .idle → s.tariff.change = none →
     (∀ c ∈ s.fault.stop, c.blocksOpen = true → c = .journalFull) → s.freeSlots ≠ 0 →
       let left := 512 + s.cash.exportMark.toNat - s.cash.nextSeq.toNat
       ∃ t, exec .openSale s = .next t
         ∧ s.Took t .saleCmd 1 [.saleResp, .tenderResp, .price]
             ([.sale, .engine, .cash] ++ if left = 0 then [.fault] else []) [(s.at .cash 16, 1)]
         ∧ t.sale =
             { s.sale with
               state := .opened, number := s.cash.nextSeq, escrow := Eight.all 0, late := Eight.all 0
               lateTotal := 0, coinPence := 0, cardPence := 0, permit := none, verdict := .none
               voidReason := .none, idle := 0, saleCmd := 16, coinIn := 0, cardIn := 0, refundDue := 0
               commitFlags := 0
               inhibit := if s.fault.stop.any Condition.blocksCoin then 1 else 0 }
         ∧ t.cash = { s.cash with reserved := true }
         ∧ s.PriceStarted t { t0 := s.time.minute.toNat, tendered := 0, permit := none }
         ∧ s.FaultsRaised t (if left = 0 then [(.journalFull, 0, loWord s.cash.nextSeq)] else []) id id)
  ∧ (∀ s : State, s.Takes .saleCmd → s.sale.state = .idle →
     (s.tariff.change ≠ none →
       ∃ t, exec .openSale s = .next t ∧ s.Took t .saleCmd 1 [.saleResp] [.sale] []
         ∧ t.sale = { s.sale with waitOpen := true })
     ∧ (s.tariff.change = none →
         (∃ c ∈ s.fault.stop, c.blocksOpen = true ∧ c ≠ .journalFull) →
           ∃ t, exec .openSale s = .next t ∧ s.Took t .saleCmd 1 [.saleResp] [.sale] []
             ∧ t.sale = { s.sale with saleCmd := 18 })
     ∧ (s.tariff.change = none →
         (∀ c ∈ s.fault.stop, c.blocksOpen = true → c = .journalFull) → s.freeSlots = 0 →
           ∃ t, exec .openSale s = .next t ∧ s.Took t .saleCmd 1 [.saleResp] [.sale] []
             ∧ t.sale = { s.sale with saleCmd := 19 }))

/-- A sale request in a state that does not take it is answered BAD_STATE (17), and a value that is no request UNKNOWN
(24); nothing else changes but the idle count of an OPEN sale, which is reset (R4, R5, R7, R12, R13, R20). Requests
and tenders that reach the sale unit during a close wait there, in order (R10, R22). -/
def Obligations.SaleRequestsOutOfTurnAreAnsweredOrHeld : Prop :=
  (∀ s : State, s.Takes .saleCmd → s.sale.state ≠ .committing → s.sale.state ≠ .voiding →
     let after (code : Word) : SaleUnit :=
       { s.sale with saleCmd := code, idle := if s.sale.state = .opened then 0 else s.sale.idle }
     (s.sale.state ≠ .idle →
       ∃ t, exec .openSale s = .next t ∧ s.Took t .saleCmd 1 [.saleResp] [.sale] [] ∧ t.sale = after 17)
     ∧ (s.sale.state ≠ .opened →
         ∃ t, exec .commit s = .next t ∧ s.Took t .saleCmd 2 [.saleResp] [.sale] [] ∧ t.sale = after 17)
     ∧ (s.sale.state ≠ .opened →
         ∃ t, exec .abandon s = .next t ∧ s.Took t .saleCmd 3 [.saleResp] [.sale] [] ∧ t.sale = after 17)
     ∧ (s.sale.state = .idle ∨ s.sale.state = .opened →
         ∃ t, exec .clear s = .next t ∧ s.Took t .saleCmd 4 [.saleResp] [.sale] [] ∧ t.sale = after 17)
     ∧ ∀ v : Word, (Instr.saleCmdUnknown v).wellFormed = true →
         ∃ t, exec (.saleCmdUnknown v) s = .next t ∧ s.Took t .saleCmd v [.saleResp] [.sale] []
           ∧ t.sale = after 24)
  ∧ (∀ (s : State) (v : Word), s.sale.state = .committing ∨ s.sale.state = .voiding →
     (s.Takes .saleCmd →
       ∃ t, exec (.saleCmdUnknown v) s = .next t ∧ s.Took t .saleCmd v [.saleResp] [.sale] []
         ∧ t.sale = { s.sale with held := s.sale.held ++ [.cmd v] })
     ∧ (s.Takes .coinIn →
         ∃ t, exec (.coinIn v) s = .next t ∧ s.Took t .coinIn v [.tenderResp] [.sale] []
           ∧ t.sale = { s.sale with held := s.sale.held ++ [.coin v] })
     ∧ (s.Takes .cardIn →
         ∃ t, exec (.cardIn v) s = .next t ∧ s.Took t .cardIn v [.tenderResp] [.sale] []
           ∧ t.sale = { s.sale with held := s.sale.held ++ [.card v] }))

/-- COMMIT in OPEN resets the idle count and waits, with SALE_RESP owed and the state still OPEN (R7). The checks at the
end of COMMIT's wait, in the order of R8: NOTHING_TENDERED (20), BELOW_MINIMUM (21), BOX_ABSENT (23); a refusal
leaves the state OPEN and the tender as it was. -/
def Obligations.CommitWaitsAndIsRefusedInOrder : Prop :=
  (∀ s : State, s.Takes .saleCmd → s.sale.state = .opened →
     ∃ t, exec .commit s = .next t ∧ s.Took t .saleCmd 2 [.saleResp] [.sale] []
       ∧ t.sale = { s.sale with waitCommit := true, idle := 0 }
       ∧ ReadyItem.group .saleResp ∉ t.path.ready)
  ∧ (∀ s : State, s.sale.waitCommit = true → s.sale.state = .opened → s.busy .price = false →
     s.permit.search = none →
       let free := ∃ p, s.sale.permit = some p
         ∧ (bandAt s.tariff.cache s.sale.price.pricedAt.toNat).band.chargedFree (some p.category) = true
       let refused (code : Word) :=
         ∃ t, exec .commitWaitEnd s = .next t ∧ s.Effect t none [.saleResp] [.sale] []
           ∧ t.sale = { s.sale with waitCommit := false, saleCmd := code }
       (s.sale.tendered = 0 → ¬ free → refused 20)
       ∧ (0 < s.sale.tendered → hasFlag s.sale.price.flags .belowMinimum = true → refused 21)
       ∧ ((0 < s.sale.tendered ∨ free) →
           ¬ (0 < s.sale.tendered ∧ hasFlag s.sale.price.flags .belowMinimum = true) →
             s.sale.escrowTotal ≠ 0 → .boxAbsent ∈ s.fault.stop → refused 23))

/-- A COMMIT that passes its checks (R9): the sale is COMMITTING and owes SALE_RESP and TENDER_RESP; with a permit in
use the commit permit step asks for the roll lock, and takes today if it is handed it (R105); without one the close
is handed over. That it goes before a period close that waits, when none is in hand, is the model's choice (log 36,
`closeHanded`). -/
def Obligations.CommitThatPassesStartsTheClose : Prop :=
  ∀ s : State, s.path.map.isSome = true → s.sale.waitCommit = true → s.sale.state = .opened → s.busy .price = false →
    s.permit.search = none → s.commitRefusal = none →
      let going : SaleUnit :=
        { s.sale with state := .committing, waitCommit := false, recordStep := false, permitPart := none }
      (s.sale.permit ≠ none →
        ∃ t, exec .commitWaitEnd s = .next t
          ∧ s.Effect t none [.saleResp, .tenderResp] [.sale, .permit] [] ∧ t.sale = going
          ∧ (s.permit.lock.holder = none →
              t.permit = { s.permit with
                commitDay := s.today
                lock.holder := some .commitStep
                lock.waiters := s.permit.lock.waiters.filter (· != .commitStep) })
          ∧ (s.permit.lock.holder ≠ none → s.permit.lock.waiters.contains .commitStep = false →
              t.permit = { s.permit with lock.waiters := s.permit.lock.waiters ++ [.commitStep] }))
      ∧ (s.sale.permit = none →
          let pence := penceOf s.sale.late s.cfg.denoms
          let u : SaleUnit :=
            { going with
              refundDue := BitVec.ofNat 16 (min pence 65535)
              commitFlags := (if pence = 0 then 0 else 2) ||| (if s.sale.price.overpay = 0 then 0 else 4) }
          ∃ t, exec .commitWaitEnd s = .next t
            ∧ s.Effect t none [.saleResp, .tenderResp] [.sale, .cash] (s.handWrites u) ∧ t.sale = u
            ∧ t.cash = s.closeHanded u)

/-- ABANDON in OPEN begins a void with reason ABANDONED and leaves ACCEPTED (16) for SALE_CMD (BAD_STATE (17) in a state
with a COMMIT waiting, which no run reaches: SALE_RESP is then owed); it raises no attention source (R12, R22).
PRICE, if a run was in flight, is ready with the last completed price (R18), and PERMIT_RESP, if a search was, with
NO_SALE (R22). That its close goes before a period close that waits is the model's choice (log 36,
`closeHanded`). -/
def Obligations.AbandonVoidsTheSale : Prop :=
  ∀ s : State, s.Takes .saleCmd → s.sale.state = .opened →
    let u := { s.voidedSale .abandoned (if s.sale.waitCommit then 17 else 16) with idle := 0 }
    ∃ t, exec .abandon s = .next t
      ∧ s.Took t .saleCmd 3 [.saleResp, .tenderResp] [.sale, .cash, .permit, .engine] (s.handWrites u)
      ∧ s.VoidBegun t u

/-- CLEAR in CLOSED or VOID (R13): IDLE, no permit, every amount 0, the sale number kept, all four groups of the sale
record written, and a due changeover begun, unless its step 1 has failed since the last minute mark (R83, R84). -/
def Obligations.ClearReturnsTheContextToIdle : Prop :=
  ∀ s : State, s.Takes .saleCmd → s.sale.state = .closed ∨ s.sale.state = .void →
    ∃ t, exec .clear s = .next t
      ∧ s.Took t .saleCmd 4 [.saleResp, .tenderResp, .price, .permitResp] [.sale, .permit, .tariff] []
      ∧ t.sale =
          { s.sale with
            state := .idle, permit := none, verdict := .none, coinPence := 0, cardPence := 0
            price := PriceResult.zero, voidReason := .none, idle := 0, escrow := Eight.all 0
            late := Eight.all 0, lateTotal := 0, saleCmd := 16, coinIn := 0, cardIn := 0
            refundDue := 0, commitFlags := 0, inhibit := 0, recordStep := false, permitPart := none }
      ∧ t.permit = { s.permit with permitReq := 0 }
      ∧ t.tariff = { s.tariff with
          change := if s.tariff.due = true ∧ s.tariff.retry = false ∧ s.tariff.change = none then
                      some .toActivate
                    else s.tariff.change }

/-- A coin (R14): BAD_DENOM (19), NO_SALE (18), LATE (17) or TAKEN (16), decided in this order. That the stray coin of a
NO_SALE waits behind a due period close with no close in flight is the model's choice (log 36). A card payment
(R15): NO_SALE (18), ZERO (20), TOO_LARGE (21) or TAKEN (16), decided in this order. -/
def Obligations.TendersAreDecidedInOrder : Prop :=
  (∀ (v : Word) (s : State), s.Takes .coinIn → s.sale.state ≠ .committing → s.sale.state ≠ .voiding →
     let answered (code : Word) :=
       ∃ t, exec (.coinIn v) s = .next t ∧ s.Took t .coinIn v [.tenderResp] [.sale] []
         ∧ t.sale = { s.sale with coinIn := code }
     (8 ≤ v.toNat → answered 19)
     ∧ ∀ d : Fin 8, v.toNat = d.val →
         let pence := s.cfg.denoms[d].toNat
         let late := s.sale.escrowTotal = s.cfg.escrowCap ∨ s.fault.stop.any Condition.blocksCoin = true
           ∨ 65535 < s.sale.tendered + pence
         let inhibit (total : Nat) : Word :=
           if total = s.cfg.escrowCap ∨ s.fault.stop.any Condition.blocksCoin = true then 1 else 0
         (pence = 0 → answered 19)
         ∧ (pence ≠ 0 → s.sale.state ≠ .opened → s.cash.close = none → s.cash.waiting = [] →
             let n := BitVec.ofNat 16 (min (s.cash.period.stray[d].toNat + 1) 65535)
             ∃ t, exec (.coinIn v) s = .next t
               ∧ s.Took t .coinIn v [.tenderResp] [.sale, .cash]
                   [(s.at .cash (1184 + (24 + d.val)), n),
                    (s.at .cash (1184 + 63), crc t.cash.period.body)]
               ∧ t.sale = { s.sale with coinIn := 18 }
               ∧ t.cash = { s.cash with period.stray := s.cash.period.stray.set d n })
         ∧ (pence ≠ 0 → s.sale.state ≠ .opened → s.cash.close ≠ none ∨ s.cash.waiting ≠ [] →
             ∃ t, exec (.coinIn v) s = .next t ∧ s.Took t .coinIn v [.tenderResp] [.sale, .cash] []
               ∧ t.sale = { s.sale with coinIn := 18 }
               ∧ t.cash = { s.cash with waiting := s.cash.waiting ++ [.stray d] })
         ∧ (pence ≠ 0 → s.sale.state = .opened → late →
             ∃ t, exec (.coinIn v) s = .next t ∧ s.Took t .coinIn v [.tenderResp] [.sale] []
               ∧ t.sale =
                   { s.sale with
                     late := s.sale.late.set d (BitVec.ofNat 16 (min (s.sale.late[d].toNat + 1) 65535))
                     lateTotal := BitVec.ofNat 16 (min (s.sale.lateTotal.toNat + 1) 65535)
                     idle := 0, coinIn := 17, inhibit := inhibit s.sale.escrowTotal })
         ∧ (pence ≠ 0 → s.sale.state = .opened → ¬ late →
             ∃ t, exec (.coinIn v) s = .next t
               ∧ s.Took t .coinIn v [.tenderResp, .price] [.sale, .engine] []
               ∧ t.sale =
                   { s.sale with
                     escrow := s.sale.escrow.set d (sum16 (s.sale.escrow[d].toNat + 1))
                     coinPence := s.sale.coinPence + s.cfg.denoms[d]
                     idle := 0, coinIn := 16, inhibit := inhibit t.sale.escrowTotal }
               ∧ s.PriceStarted t
                   { t0 := s.time.minute.toNat, tendered := s.sale.tendered + pence
                     permit := s.sale.permit.map PermitInUse.category }))
  ∧ (∀ (v : Word) (s : State), s.Takes .cardIn → s.sale.state ≠ .committing → s.sale.state ≠ .voiding →
     let answered (code : Word) :=
       ∃ t, exec (.cardIn v) s = .next t ∧ s.Took t .cardIn v [.tenderResp] [.sale] []
         ∧ t.sale = { s.sale with cardIn := code }
     (s.sale.state ≠ .opened → answered 18)
     ∧ (s.sale.state = .opened → v = 0 → answered 20)
     ∧ (s.sale.state = .opened → v ≠ 0 → 65535 < s.sale.tendered + v.toNat → answered 21)
     ∧ (s.sale.state = .opened → v ≠ 0 → s.sale.tendered + v.toNat ≤ 65535 →
         ∃ t, exec (.cardIn v) s = .next t
           ∧ s.Took t .cardIn v [.tenderResp, .price] [.sale, .engine] []
           ∧ t.sale = { s.sale with cardPence := s.sale.cardPence + v, idle := 0, cardIn := 16 }
           ∧ s.PriceStarted t
               { t0 := s.time.minute.toNat, tendered := s.sale.tendered + v.toNat
                 permit := s.sale.permit.map PermitInUse.category }))

/-! ## The path unit -/

/-- An access that nothing claims passes through (R26, R27): outside the windows, and for a read also inside them when
the word's group is not in the pending set; a write changes the enabled bytes alone. A write to flash outside the
BOOK window changes them as anywhere (log 8, the model's choice), and a read of flash gives the word stored even
while FBUSY is asserted (log 30, the model's choice). A read of the latched word with another size is such a read
(R38). An access with both byte enables deasserted is ended READY at once: a read returns 0000h, nothing reaches
memory and nothing is observed (R26); so even while the flash is busy (log 14, DEDUCED). -/
def Obligations.UnclaimedAndEmptyAccessesChangeNothingElse : Prop :=
  (∀ (a : Access) (s : State) (m : WindowMap), s.Runs m → (a.hi || a.lo) = true →
     s.flashHolds a.word = false →
       let at_ := 2 * a.word.toNat
       (∀ d, a.data = some d → m.place a.word = none →
         ∃ t, exec (.hostPassThrough a) s = .next t ∧ t.path.reply = { term := .ready, data := .none }
           ∧ s.WroteOnly t
               [(at_, mkWord (if a.hi then hiByte d else hiByte (s.word at_))
                       (if a.lo then loByte d else loByte (s.word at_)))]
           ∧ s.KeepsBut t [.reply])
       ∧ (a.data = none →
           (∀ r, (s.path.slot = .waiting r ∨ ∃ v n, s.path.slot = .complete r v n) →
             ¬ (r.word = a.word ∧ r.size = sizeOf a.hi a.lo)) →
           (∀ p, m.place a.word = some p →
             cellAt p ≠ some .attnTake ∧ ∀ g, groupAt p = some g → g ∉ s.path.owed) →
               ∃ t, exec (.hostPassThrough a) s = .next t
                 ∧ t.path.reply = { term := .ready, data := dataOf (s.word at_) a.hi a.lo }
                 ∧ s.WroteOnly t [] ∧ s.KeepsBut t [.reply]))
  ∧ (∀ (a : Access) (s : State), s.path.mode = .running → s.start.phase = .done → a.hi = false →
     a.lo = false →
       ∃ t, exec (.hostPassThrough a) s = .next t
         ∧ t.path.reply = { term := .ready, data := if a.data = none then .word 0 else .none }
         ∧ s.WroteOnly t [] ∧ s.KeepsBut t [.reply])

/-- A read of a word whose group is in the pending set is answered RETRY; an EMPTY slot latches it, any other slot stays
(R27, R37). -/
def Obligations.HeldReadsAreRetriedAndLatched : Prop :=
  ∀ (w : BitVec 23) (hi lo : Bool) (s : State) (m : WindowMap) (p : Window × Nat) (g : Group),
    s.Runs m → (Instr.heldRead w hi lo).wellFormed = true → s.flashHolds w = false →
      m.place w = some p → groupAt p = some g → g ∈ s.path.owed →
        ∃ t, exec (.heldRead w hi lo) s = .next t
          ∧ (s.path.slot = .empty →
              t.path.slot = .waiting { word := w, size := sizeOf hi lo, group := g }
                ∧ t.path.reply = { term := .retry, data := .none })
          ∧ ((∃ r, s.path.slot = .waiting r) ∨
              (∃ r v n, s.path.slot = .complete r v n ∧ ¬ (r.word = w ∧ r.size = sizeOf hi lo)) →
                t.path.slot = s.path.slot ∧ t.path.reply = { term := .retry, data := .none })
          ∧ s.WroteOnly t [] ∧ s.KeepsBut t [.slot, .reply]

/-- A read with the latched address and size: RETRY from a WAITING slot; from a COMPLETE one READY with the value held,
and the slot goes EMPTY, whether or not its group is pending (R38). The discard timer runs out with the slot
COMPLETE: the slot goes EMPTY and STALE_READ is raised with the low 16 bits of the latched byte address (R39). -/
def Obligations.TheSlotAnswersTheRepeatOrIsDiscarded : Prop :=
  (∀ (w : BitVec 23) (hi lo : Bool) (s : State) (r : Latched),
     s.path.mode = .running → s.start.phase = .done →
       (Instr.delayedReadRepeat w hi lo).wellFormed = true → s.flashHolds w = false → r.word = w →
         r.size = sizeOf hi lo →
           (s.path.slot = .waiting r →
             ∃ t, exec (.delayedReadRepeat w hi lo) s = .next t
               ∧ t.path.reply = { term := .retry, data := .none } ∧ s.WroteOnly t []
               ∧ s.KeepsBut t [.reply])
           ∧ ∀ v n, s.path.slot = .complete r v n →
               ∃ t, exec (.delayedReadRepeat w hi lo) s = .next t
                 ∧ t.path.reply = { term := .ready, data := dataOf v hi lo } ∧ t.path.slot = .empty
                 ∧ s.WroteOnly t [] ∧ s.KeepsBut t [.slot, .reply])
  ∧ (∀ (s : State) (r : Latched) (v : Word), s.path.slot = .complete r v 0 →
     ∃ t, exec .staleRead s = .next t ∧ t.path.slot = .empty ∧ s.WroteOnly t []
       ∧ s.FaultsRaised t [(.staleRead, 0, BitVec.ofNat 16 (2 * r.word.toNat))] id id
       ∧ s.KeepsBut t [.slot, .fault, .ready])

/-- A write to a word of a free amendment queue entry reaches memory and is handed to no unit (R28, R32). A write to
PERMIT_NO, TIME_LO or the low word of JEXPORT reaches memory with its byte enables, and the whole word as memory
then holds it is kept by the unit that owns the cell (R28, R94, R131, R176). -/
def Obligations.InputCellsTakeWrites : Prop :=
  (∀ (w : BitVec 23) (hi lo : Bool) (d : Word) (s : State) (m : WindowMap) (k : BitVec 5) (i : Nat),
     s.Runs m → (Instr.inputCellWrite w hi lo d).wellFormed = true → i < 24 → i ≠ 3 →
       w = wordAddr (s.entryAddr k + 2 * i) →
         (s.permit.handed - s.permit.head).toNat ≤ (k - s.permit.head).toNat →
           let a := s.entryAddr k + 2 * i
           ∃ t, exec (.inputCellWrite w hi lo d) s = .next t
             ∧ t.path.reply = { term := .ready, data := .none }
             ∧ s.WroteOnly t
                 [(a, mkWord (if hi then hiByte d else hiByte (s.word a))
                         (if lo then loByte d else loByte (s.word a)))]
             ∧ t.path.slot = s.slotAfter (some w) [] ∧ s.KeepsBut t [.slot, .reply])
  ∧ (∀ (hi lo : Bool) (d : Word) (s : State) (m : WindowMap), s.Runs m → (hi || lo) = true → s.Canonical →
     let seen (c : Cell) : Word :=
       mkWord (if hi then hiByte d else hiByte (s.word (s.cellByte c)))
         (if lo then loByte d else loByte (s.word (s.cellByte c)))
     let wrote (t : State) (c : Cell) (changed : List Part) :=
       t.path.reply = { term := .ready, data := .none } ∧ s.WroteOnly t [(s.cellByte c, seen c)]
         ∧ t.path.slot = s.slotAfter (some (s.cellAddr c)) [] ∧ s.KeepsBut t ([.slot, .reply] ++ changed)
     (∃ t, exec (.permitNo false hi lo d) s = .next t ∧ wrote t .permitNoLow [.permit]
       ∧ t.permit = { s.permit with kept := mkDWord (seen .permitNoLow) (hiWord s.permit.kept) })
     ∧ (∃ t, exec (.permitNo true hi lo d) s = .next t ∧ wrote t .permitNoHigh [.permit]
         ∧ t.permit = { s.permit with kept := mkDWord (loWord s.permit.kept) (seen .permitNoHigh) })
     ∧ (∃ t, exec (.timeLo hi lo d) s = .next t ∧ wrote t .timeLo [.time]
         ∧ t.time = { s.time with low := seen .timeLo })
     ∧ (.jexportResp ∉ s.path.owed →
         ∃ t, exec (.jexportLow hi lo d) s = .next t ∧ wrote t .jexportLow [.cash]
           ∧ t.cash = { s.cash with exportLow := seen .jexportLow }))

/-- A write to an owned cell and a byte write to a command cell are refused with ERROR: memory is unchanged, nothing is
handed over, the latched word's slot is emptied, and WINDOW_VIOLATION is raised with the low 16 bits of the word's
byte address (R29, R30, R40). That a write to an owned cell is refused also while its group is in the pending set is
the model's choice (log 38). -/
def Obligations.RefusedWritesRaiseWindowViolation : Prop :=
  ∀ (w : BitVec 23) (hi lo : Bool) (d : Word) (s : State) (m : WindowMap) (p : Window × Nat),
    s.Runs m → (Instr.ownedCellWrite w hi lo d).wellFormed = true → s.flashHolds w = false →
      m.place w = some p → p.1 ≠ .book →
        s.kindAt p = .owned ∨ (s.kindAt p = .command ∧ (hi && lo) = false) →
          ∃ t, exec (.ownedCellWrite w hi lo d) s = .next t
            ∧ t.path.reply = { term := .error, data := .none } ∧ s.WroteOnly t []
            ∧ t.path.slot = s.slotAfter (some w) []
            ∧ s.FaultsRaised t [(.windowViolation, 0, BitVec.ofNat 16 (2 * w.toNat))] id id
            ∧ s.KeepsBut t [.slot, .reply, .fault, .ready]

/-- A write into the BOOK window with the flash not busy (R33, R78): a word write into the open session's slot, not to
its state word, is handed to the programmer and ended READY; the programmer makes its command writes, or waits with
the flash as it is while FBUSY is asserted (R74); any other is refused with ERROR. -/
def Obligations.BookWritesGoToTheOpenSession : Prop :=
  ∀ (w : BitVec 23) (hi lo : Bool) (d : Word) (s : State) (m : WindowMap) (k : Nat),
    s.Runs m → (Instr.bookWindowWrite w hi lo d).wellFormed = true →
      s.tariff.prog.job = none → s.tariff.prog.jobs = [] → m.place w = some (.book, k) →
        let base := s.bookAddr s.tariff.session.slot
        let taken := hi = true ∧ lo = true ∧ s.tariff.session.state = .opened
          ∧ base + 2 ≤ 2 * w.toNat ∧ 2 * w.toNat < base + 8192
        (taken →
          let job : FlashJob := { op := .program (2 * w.toNat) d, use := .hostWord }
          ∃ t, exec (.bookWindowWrite w hi lo d) s = .next t
            ∧ t.path.reply = { term := .ready, data := .none } ∧ s.WroteOnly t []
            ∧ t.path.slot = s.slotAfter (some w) []
            ∧ t.tariff.prog =
                { job := some job, waitsFbusy := s.flash.fbusy, timer := some s.cfg.flashWaitMs, jobs := [] }
            ∧ t.flash = (if s.flash.fbusy = true then s.flash else { fbusy := true, op := some job.op })
            ∧ s.KeepsBut t [.slot, .reply, .tariff, .flash]
            ∧ t.tariff = { s.tariff with prog := t.tariff.prog })
        ∧ (¬ taken →
            ∃ t, exec (.bookWindowWrite w hi lo d) s = .next t
              ∧ t.path.reply = { term := .error, data := .none } ∧ s.WroteOnly t []
              ∧ t.path.slot = s.slotAfter (some w) []
              ∧ s.FaultsRaised t [(.windowViolation, 0, BitVec.ofNat 16 (2 * w.toNat))] id id
              ∧ s.KeepsBut t [.slot, .reply, .fault, .ready])

/-- In STARTING writes are answered RETRY, raise nothing and leave memory unchanged, and reads pass through with no
effect, flash holding apart; while a reset is held every access is answered RETRY; in TRANSPARENT every access
passes through (R44, R46, R178). That a write to flash then changes the addressed bytes is log 8, and that a read
under FBUSY gives the word stored is log 30: the model's choices. -/
def Obligations.OutsideRunningNothingIsClassified : Prop :=
  ∀ (a : Access) (s : State), (a.hi || a.lo) = true →
    let at_ := 2 * a.word.toNat
    let retried :=
      ∃ t, exec (.hostPassThrough a) s = .next t ∧ t.path.reply = { term := .retry, data := .none }
        ∧ s.WroteOnly t [] ∧ s.KeepsBut t [.reply]
    let readGiven :=
      ∃ t, exec (.hostPassThrough a) s = .next t
        ∧ t.path.reply = { term := .ready, data := dataOf (s.word at_) a.hi a.lo }
        ∧ s.WroteOnly t [] ∧ s.KeepsBut t [.reply]
    (s.start.phase = .held → retried)
    ∧ (s.start.phase ≠ .held → s.path.mode = .starting →
        (a.data ≠ none → retried)
        ∧ (a.data = none → s.flashHolds a.word = true → retried)
        ∧ (a.data = none → s.flashHolds a.word = false → readGiven))
    ∧ (s.start.phase ≠ .held → s.path.mode = .transparent →
        (a.data = none → readGiven)
        ∧ ∀ d, a.data = some d →
            ∃ t, exec (.hostPassThrough a) s = .next t
              ∧ t.path.reply = { term := .ready, data := .none }
              ∧ s.WroteOnly t [(at_, mergeBytes (s.word at_) d a.hi a.lo)] ∧ s.KeepsBut t [.reply])

/-- A word write to a command cell, or any write to an input cell, whose group is in the pending set is answered RETRY
with memory unchanged, PERMIT_REQ apart, and empties the slot of that word (R40); so is every access to flash while
the flash is busy, which leaves the slot as it is (R28, R29, R41). -/
def Obligations.PendingGroupsAndBusyFlashAnswerRetry : Prop :=
  ∀ (a : Access) (s : State) (m : WindowMap), s.Runs m → (a.hi || a.lo) = true →
    let retried (slot : DelayedSlot) :=
      ∃ t, exec (.hostPassThrough a) s = .next t ∧ t.path.reply = { term := .retry, data := .none }
        ∧ s.WroteOnly t [] ∧ t.path.slot = slot ∧ s.KeepsBut t [.reply, .slot]
    (s.flashHolds a.word = true → retried s.path.slot)
    ∧ ∀ p g, m.place a.word = some p → groupAt p = some g → g ∈ s.path.owed → a.data ≠ none →
        s.flashHolds a.word = false → p.1 ≠ .book → cellAt p ≠ some .permitReq →
          s.kindAt p = .input ∨ (s.kindAt p = .command ∧ (a.hi && a.lo) = true) →
            retried (s.slotAfter (some a.word) [])

/-- The coded vector (R169) and the line ATTN (R168): a take would serve the highest-ranked of the enabled pending
sources that outrank every in-service source; the vector is the base + 2 x its rank, + 1 when another source is
enabled and pending, and the base + 14 when there is none. ATTN is asserted in TRANSPARENT, and in RUNNING when
there is one. A read of ATTN_TAKE in RUNNING returns the coded vector and takes attention (R31, R170): the source
the vector names, if any, stops being pending and goes in service, ATTN_TAKE is to be rewritten with the vector and,
if a source was served, ATTN_PEEK with the new one, and memory is not read. ATTN_EOS (R171) ends the highest-ranked
service, whatever its value (DONE, 16), or is answered NONE_IN_SERVICE (17). ATTN_ENABLE (R172) replaces the five
enables; a source left disabled is not pending; CASH newly disabled makes the LINES latch live. ATTN_PEEK is
rewritten when the vector changes, LINES when it changes. -/
def Obligations.AttentionIsTakenEndedAndEnabled : Prop :=
  (∀ s : State,
     let q := s.fault.sources
     let calls (x : Source) := (q.get x).enabled = true ∧ (q.get x).pend = true
     let ready (x : Source) := calls x ∧ ∀ y, (q.get y).serving = true → x.rank < y.rank
     let base := s.fault.vectorBase
     (∀ x, ready x → (∀ y, ready y → x.rank ≤ y.rank) →
       q.next = some x
         ∧ ((∃ y, y ≠ x ∧ calls y) → s.vector = base + BitVec.ofNat 16 (2 * x.rank) + 1)
         ∧ ((∀ y, calls y → y = x) → s.vector = base + BitVec.ofNat 16 (2 * x.rank)))
     ∧ ((∀ x, ¬ ready x) → q.next = none ∧ s.vector = base + 14)
     ∧ (s.attn = true ↔ s.path.mode = .transparent ∨ (s.path.mode = .running ∧ ∃ x, ready x)))
  ∧ (∀ (hi lo : Bool) (s : State) (m : WindowMap), s.Runs m → (Instr.attnTake hi lo).wellFormed = true →
     s.latchedWord ≠ some (s.cellAddr .attnTake) →
       ∃ t, exec (.attnTake hi lo) s = .next t
         ∧ t.path.reply = { term := .ready, data := dataOf s.vector hi lo }
         ∧ t.fault.lastTake = s.vector ∧ .image .take ∈ t.path.ready ∧ s.WroteOnly t []
         ∧ (s.fault.sources.next = none →
             t.fault = { s.fault with lastTake := s.vector } ∧ s.KeepsBut t [.reply, .ready, .fault])
         ∧ ∀ x, s.fault.sources.next = some x →
             .image .peek ∈ t.path.ready
             ∧ (x ≠ .cash →
               t.fault = { s.fault with
                 lastTake := s.vector
                 sources := s.fault.sources.set x
                   { s.fault.sources.get x with pend := false, serving := true } }
               ∧ s.KeepsBut t [.reply, .ready, .fault])
             ∧ (x = .cash →
                 let levels : Levels :=
                   { door := s.lines.door.asserted, box := s.lines.box.asserted, key := s.lines.key.asserted }
                 let moved := s.cash.latch ≠ .live ∧ s.cash.latch ≠ .frozen levels
                 let served := s.fault.sources.set .cash
                   { s.fault.sources.cash with pend := false, serving := true }
                 t.fault = { s.fault with
                   lastTake := s.vector
                   sources :=
                     if moved then served.raised .cash (BitVec.ofNat 16 s.cash.compartment.code)
                     else served }
                 ∧ t.cash = { s.cash with
                     latch :=
                       if moved ∧ s.fault.sources.cash.enabled = true then .frozen levels else .live }
                 ∧ (t.shownLevels ≠ s.shownLevels → .image .lines ∈ t.path.ready)
                 ∧ s.KeepsBut t [.reply, .ready, .fault, .cash]))
  ∧ (∀ (v : Word) (s : State),
     let q := s.fault.sources
     let enable (r : SourceRegs) (n : Nat) : SourceRegs :=
       { r with enabled := v.getLsbD n, pend := r.pend && v.getLsbD n }
     (s.Takes .attnEos →
       (∀ x, (q.get x).serving = true → (∀ y : Source, y.rank < x.rank → (q.get y).serving = false) →
         ∃ t, exec (.attnEos v) s = .next t ∧ s.Took t .attnEos v [.eosResp] [.fault] []
           ∧ t.fault = { s.fault with
               attnEos := 16, sources := q.set x { q.get x with serving := false } }
           ∧ (t.vector ≠ s.vector → .image .peek ∈ t.path.ready))
       ∧ ((∀ x, (q.get x).serving = false) →
           ∃ t, exec (.attnEos v) s = .next t ∧ s.Took t .attnEos v [.eosResp] [.fault] []
             ∧ t.fault = { s.fault with attnEos := 17 }))
     ∧ (s.Takes .attnEnable →
         ∃ t, exec (.attnEnable v) s = .next t ∧ s.Took t .attnEnable v [.enableResp] [.fault, .cash] []
           ∧ t.fault = { s.fault with
               attnEnable := 16
               sources := { sale := enable q.sale 0, fault := enable q.fault 1, cash := enable q.cash 2
                            book := enable q.book 3, roll := enable q.roll 4 } }
           ∧ t.cash =
               (if q.cash.enabled = true ∧ v.getLsbD 2 = false then { s.cash with latch := .live } else s.cash)
           ∧ (t.vector ≠ s.vector → .image .peek ∈ t.path.ready)
           ∧ (t.shownLevels ≠ s.shownLevels → .image .lines ∈ t.path.ready)))

/-- The group writer writes every word of the group at the front of the ready order, each with its unit's value, in
ascending address order, and the group leaves the pending set and the ready order, the rest of which stays as it
was; a WAITING slot of the group goes COMPLETE with the word just written and its timer at the discard time, and
any other slot is kept; the write that ends the sale record step of a close is followed by the step done 5 (R36,
R39, R134, R187, R188). -/
def Obligations.GroupWriteWritesTheFrontGroup : Prop :=
  ∀ (s : State) (g : Group) (rest : List ReadyItem),
    s.path.map.isSome = true → s.path.ready = .group g :: rest →
      let ends (c : Close) := s.cash.close = some c ∧ c.kind ≠ .period ∧ c.stepDone = 4
        ∧ s.sale.recordStep = true
        ∧ ((g = .saleResp ∧ c.tenderWritten = true) ∨ (g = .tenderResp ∧ c.saleWritten = true))
      let u := s.sale
      let p := s.sale.price
      let state : SaleState :=
        if u.recordStep then (if u.state = .committing then .closed else .void) else u.state
      let inUse (f : PermitInUse → Byte) : Word :=
        match u.permit with
        | some x => (f x).setWidth 16
        | none => 0
      let cells : List ((Window × Nat) × Word) :=
        match g with
        | .saleResp =>
          [((.sale, 0), u.saleCmd), ((.sale, 1), BitVec.ofNat 16 state.code), ((.sale, 2), loWord u.number),
           ((.sale, 3), hiWord u.number), ((.sale, 17), u.refundDue),
           ((.sale, 22), BitVec.ofNat 16 u.voidReason.code), ((.sale, 25), u.commitFlags)]
        | .tenderResp =>
          let count (d : Fin 8) : Word := if u.recordStep then 0 else u.escrow[d]
          [((.sale, 4), u.coinIn), ((.sale, 5), u.cardIn),
           ((.sale, 6), sum16 (u.coinPence.toNat + u.cardPence.toNat)), ((.sale, 18), u.inhibit),
           ((.sale, 24), if u.recordStep then 0 else u.lateTotal), ((.sale, 26), count 0), ((.sale, 27), count 1),
           ((.sale, 28), count 2), ((.sale, 29), count 3), ((.sale, 30), count 4), ((.sale, 31), count 5),
           ((.cash, 24), count 6), ((.cash, 25), count 7)]
        | .price =>
          [((.sale, 7), p.charge), ((.sale, 8), loWord p.expiry), ((.sale, 9), hiWord p.expiry),
           ((.sale, 10), p.flags), ((.sale, 11), p.bandInfo), ((.sale, 19), p.bookId),
           ((.sale, 20), loWord p.pricedAt), ((.sale, 21), hiWord p.pricedAt), ((.sale, 23), p.overpay)]
        | .permitResp =>
          [((.sale, 14), s.permit.permitReq), ((.sale, 15), inUse PermitInUse.discount),
           ((.sale, 16), inUse PermitInUse.category)]
        | .timeResp => [((.control, 1), s.time.timeHi)]
        | .serviceResp => [((.control, 2), s.fault.serviceCmd)]
        | .collectResp => [((.control, 3), s.cash.collectCmd)]
        | .bookResp => [((.control, 4), s.tariff.bookCmd)]
        | .faultResp => ((.control, 5), s.fault.faultCmd)
            :: (List.range 8).zipWith (fun k v => ((.control, 6 + k), v)) s.fault.view
        | .eosResp => [((.control, 15), s.fault.attnEos)]
        | .enableResp => [((.control, 16), s.fault.attnEnable)]
        | .reportResp => [((.control, 14), s.fault.reportCmd)]
        | .jexportResp =>
          [((.cash, 14), loWord s.cash.exportMark), ((.cash, 15), hiWord s.cash.exportMark)]
        | .pexportResp => [((.cash, 18), s.cash.pexport)]
        | .amendResp =>
          [((.roll, 69649), BitVec.ofNat 16 s.permit.tail.toNat), ((.roll, 69650), s.permit.amendStatus)]
      let inOrder := cells.map fun c => (s.at c.1.1 c.1.2, c.2)
      let writes :=
        if g = .tenderResp ∧ s.base .cash < s.base .sale then inOrder.drop 11 ++ inOrder.take 11 else inOrder
      (∀ c ∈ cells, (s.at c.1.1 c.1.2, c.2) ∈ writes)
      ∧ (∀ m, s.path.map = some m → m.placed = true → (writes.map Prod.fst).Pairwise (· < ·))
      ∧ ∃ t, exec .groupWrite s = .next t
        ∧ ((∀ c, ¬ ends c) → s.WroteOnly t writes)
        ∧ (∀ c, ends c →
            s.WroteOnly t (writes ++ [(s.at .cash 33, 5)])
            ∧ t.cash = { s.cash with
                close := some { c with saleWritten := true, tenderWritten := true, stepDone := 5 } })
        ∧ (∀ x, x ∈ t.path.owed ↔ x ∈ s.path.owed ∧ x ≠ g)
        ∧ t.path.ready = rest.filter (fun x => decide (x ≠ .group g))
        ∧ (.group g ∉ rest → t.path.ready = rest)
        ∧ (s.path.slot = .empty → t.path.slot = .empty)
        ∧ (∀ r v n, s.path.slot = .complete r v n → t.path.slot = .complete r v n)
        ∧ (∀ r, s.path.slot = .waiting r → r.group = g →
            t.path.slot =
              .complete r ((s.mem.writeAll writes).readWord (2 * r.word.toNat)) s.cfg.discardMs)
        ∧ (∀ r, s.path.slot = .waiting r → r.group ≠ g → t.path.slot = s.path.slot)
        ∧ (∀ c, s.cash.close = some c → c.kind ≠ .period → c.stepDone = 4 → s.sale.recordStep = true →
            g = .saleResp ∨ g = .tenderResp → ¬ ends c →
              t.cash = { s.cash with
                close := some { c with
                  saleWritten := c.saleWritten || decide (g = .saleResp)
                  tenderWritten := c.tenderWritten || decide (g = .tenderResp) } })
        ∧ ((∀ c, s.cash.close = some c → c.kind = .period ∨ c.stepDone ≠ 4 ∨ s.sale.recordStep = false
              ∨ ¬ (g = .saleResp ∨ g = .tenderResp)) → t.cash = s.cash)
        ∧ t.permit =
            (if g = .amendResp then
              ({ s.permit with handed := s.permit.tail } : PermitUnit).kicked s.path.mode s.today
            else s.permit)
        ∧ s.KeepsBut t [.owed, .ready, .slot, .cash, .permit]

/-- An image at the front of the ready order is written from its unit's state: the notice words, ATTN_PEEK, ATTN_TAKE,
STOP_SET, LINES and ROUTES, at their offsets in CONTROL (R36, R188). Whatever command changes the words of an image,
the resets apart, the image is to be written afterwards (R36, R149, R152, R160, R167, R169, R170); a line that has
not settled counts as deasserted in LINES (log 49, the model's choice). -/
def Obligations.ImageRewriteWritesTheFrontImage : Prop :=
  let value (s : State) (i : Image) : Nat × List Word :=
    match i with
    | .take => (17, [s.fault.lastTake])
    | .peek => (18, [s.vector])
    | .notice x => (19 + x.rank, [(s.fault.sources.get x).notice])
    | .stopSet => (24, [stopWord s.fault.stop])
    | .lines => (25, [s.shownLevels.word])
    | .routes => (26, s.fault.routes.map RouteEntry.word)
  (∀ (s : State) (i : Image) (rest : List ReadyItem), s.path.ready = .image i :: rest →
     ∃ t, exec .imageRewrite s = .next t
       ∧ s.WroteOnly t (runWrites (s.at .control (value s i).1) (value s i).2)
       ∧ t.path.ready = rest ∧ s.KeepsBut t [.ready])
  ∧ (∀ (c : Instr) (s t : State) (i : Image), (∀ k, c ≠ .powerOn k) → (∀ k, c ≠ .hostReset k) →
     exec c s = .next t → value t i ≠ value s i → .image i ∈ t.path.ready)

/-- One grant of the memory port (R42): the host while the count is below 8, counted when an engine waits; else the
first waiting engine going round from the pointer, which moves past it, the count going to 0. A grant by itself
changes the arbiter alone; while a reset is held there is none, and in TRANSPARENT no engine waits (R42, R46, R178).
Every access is tied to its grants (R42 to R44, R74): a host access that reaches memory is granted the port, after
at most one waiting engine, and no other host access is; a row that carries an access has the effect of that access
(log 3, DEDUCED), which before a window map is loaded goes to the place that the configuration record would give its
cell (log 4, the model's choice); the engines that use the port in a command are granted it, each counted by its
last use (log 13, DEDUCED). -/
def Obligations.TheArbiterGrantsOneRequester : Prop :=
  (∀ (b : Arbiter) (waits : Engine → Bool),
     ((∃ e, waits e = true) → b.count < 8 →
       b.grant waits true = { b with granted := some .host, count := b.count + 1 })
     ∧ ((∀ e, waits e = false) → b.grant waits true = { b with granted := some .host })
     ∧ ((∀ e, waits e = false) → b.grant waits false = b)
     ∧ ∀ e, b.pointer.circle.find? waits = some e →
         (b.grant waits false = { granted := some (.engine e), pointer := e.next, count := 0 })
         ∧ (8 ≤ b.count →
             b.grant waits true = { granted := some (.engine e), pointer := e.next, count := 0 }))
  ∧ (∀ (s : State) (e : Engine),
     s.engineWaits e = true ↔
       match e with
       | .groupWriter => s.path.ready ≠ []
       | .cashWriter =>
         (∃ c, s.cash.close = some c ∧ (c.kind = .period ∨ c.stepDone ≠ 4))
           ∨ (s.cash.close = none ∧ (∃ rest, s.cash.waiting = .periodClose :: rest)
               ∧ ¬ ((s.sale.state = .committing ∨ s.sale.state = .voiding) ∧ .saleClose ∉ s.cash.waiting))
       | .permitUnit =>
         ∃ k, s.permit.lock.holder = some k ∧ (k = .commitStep → s.sale.permitPart = none)
           ∧ (k = .search → s.permit.dying = false)
       | .tariffUnit =>
         s.tariff.prog.job = none ∧ s.tariff.prog.jobs = []
           ∧ (s.tariff.change = some .toActivate ∨ s.tariff.change = some .toRetire
             ∨ s.tariff.change = some .toFill ∨ (s.tariff.change = none ∧ s.tariff.checkDue = true))
       | .startUpReader =>
         (s.start.phase = .waitFbusy ∧ (s.flash.fbusy = false ∨ s.start.fbusyLimit = some 0))
           ∨ (s.start.phase = .waitLines ∧ s.lines.settleLimit = some 0))
  ∧ (∀ (host : Bool) (s : State),
     ∃ t, exec (.memoryPortGrant host) s = .next t ∧ s.WroteOnly t [] ∧ s.KeepsBut t []
       ∧ (s.start.phase = .held → t.path.arb = s.path.arb)
       ∧ (s.start.phase ≠ .held →
           t.path.arb = s.path.arb.grant (fun e => s.path.mode != .transparent && s.engineWaits e) host))
  ∧ (∀ (c : Instr) (s : State) (a : Access), s.accessOf c = some a → exec c s = exec (.hostPassThrough a) s)
  ∧ (∀ (a : Access) (s : State), ∃ t, exec (.hostPassThrough a) s = .next t ∧
     let waits (e : Engine) := s.path.mode != .transparent && s.engineWaits e
     let used := if s.start.phase = .held then [] else s.engines t 1 false
     (s.Reaches a → t.path.arb = (s.path.arb.afterHost waits).afterEngines used)
       ∧ (¬ s.Reaches a → t.path.arb = s.path.arb.afterEngines used))
  ∧ ∀ (c : Instr) (s : State), s.accessOf c = none → (∀ h, c ≠ .memoryPortGrant h) →
     (∀ k, c ≠ .powerOn k) → (∀ k, c ≠ .hostReset k) →
       ∃ t, exec c s = .next t ∧ t.path.arb = s.path.arb.afterEngines (s.enginesOf t c)

/-! ## The permit unit -/

/-- A request to PERMIT_REQ first abandons a search in flight and resets an OPEN sale's idle count (R95). CHECK is
answered NO_SALE (26), BAD_NUMBER (27), NO_ROLL (25), in this order, or asks for the roll lock (R96); DROP removes
the permit of an OPEN sale and reprices it, and is else answered NO_SALE; any other value is answered UNKNOWN (28)
with the context unchanged (R97). -/
def Obligations.PermitRequestsAreTakenInOrder : Prop :=
  ∀ s : State, s.Takes .permitReq →
    ∃ q, s.permit.abandoned q ∧
      let sale := { s.sale with idle := if s.sale.state = .opened then 0 else s.sale.idle }
      let answered (c : Instr) (v code : Word) :=
        ∃ t, exec c s = .next t ∧ s.Took t .permitReq v [.permitResp] [.sale, .permit] []
          ∧ t.sale = sale ∧ t.permit = { q with permitReq := code }
      let delivered (v : Verdict) (code : Word) :=
        let asked := s.sale.permit.isSome = true
        ∃ t, exec .check s = .next t
          ∧ s.Took t .permitReq 1 ([.permitResp] ++ if asked then [.price] else [])
              ([.sale, .permit] ++ if asked then [.engine] else []) []
          ∧ t.sale = { sale with verdict := v, permit := none }
          ∧ t.permit = { q with permitReq := code } ∧ s.Reprices t asked
      let bad := s.permit.kept = 0 ∨ s.permit.kept = 0xFFFFFFFF
      (s.sale.state ≠ .opened → answered .check 1 26 ∧ answered .drop 2 26)
      ∧ (s.sale.state = .opened → bad → delivered .badNumber 27)
      ∧ (s.sale.state = .opened → ¬ bad → .rollDown ∈ s.fault.stop → delivered .noRoll 25)
      ∧ (s.sale.state = .opened → ¬ bad → .rollDown ∉ s.fault.stop →
          let search : Search :=
            { number := s.permit.kept, minute := s.time.minute
              today := BitVec.ofNat 16 (s.time.minute.toNat / 1440), phase := .waiting
              bucket := BitVec.ofNat 9 (s.permit.kept.toNat % 512), examined := 0, slot := 0
              overflow := false }
          ∃ t, exec .check s = .next t ∧ s.Took t .permitReq 1 [.permitResp] [.sale, .permit] []
            ∧ t.sale = sale ∧ t.permit = { q with search := some search }.asked .search s.today
            ∧ .group .permitResp ∉ t.path.ready)
      ∧ (s.sale.state = .opened →
          ∃ t, exec .drop s = .next t
            ∧ s.Took t .permitReq 2 [.permitResp, .price] [.sale, .permit, .engine] []
            ∧ t.sale = { sale with verdict := .none, permit := none }
            ∧ t.permit = { q with permitReq := 0 } ∧ s.Reprices t True)
      ∧ ∀ v : Word, (Instr.permitReqUnknown v).wellFormed = true → answered (.permitReqUnknown v) v 28

/-- The seek of a bucket by a search that holds the lock (R98): when just handed the lock it tests ROLL_DOWN (that it
does so at this row is the model's choice, log 48) and goes to its home bucket; a header that verifies leads to SCAN
at slot 0 with the overflow flag noted; one that fails raises ROLL_SEEK with the bucket and gives DAMAGED. An
abandoned search that held the lock releases it at its next step and does nothing else: that the step is its next
SEARCH_SEEK or SEARCH_SCAN is DEDUCED (log 28; R93, R103). -/
def Obligations.SeekVerifiesTheBucketOrEndsAnAbandonedSearch : Prop :=
  (∀ (s : State) (q : Search), s.permit.lock.holder = some .search → s.permit.dying = false →
     s.permit.search = some q → q.phase ≠ .scan →
       let fresh := q.phase = .waiting
       let b : BitVec 9 := if fresh then BitVec.ofNat 9 (q.number.toNat % 512) else q.bucket
       let h (i : Nat) : Word := s.word (s.at .roll (16 + 136 * b.toNat + i))
       let good := h 0 = BitVec.ofNat 16 b.toNat ∧ h 1 = 0xFFFF - BitVec.ofNat 16 b.toNat
         ∧ h 7 = crc [h 0, h 1, h 2, h 3, h 4, h 5, h 6]
       (fresh → .rollDown ∈ s.fault.stop →
         ∃ t, exec .searchSeek s = .next t ∧ s.SearchEnded t .noRoll none [])
       ∧ (¬ (fresh ∧ .rollDown ∈ s.fault.stop) → good →
           ∃ t, exec .searchSeek s = .next t ∧ s.Effect t none [] [.permit] []
             ∧ t.permit = { s.permit with
                 search := some { q with
                   phase := .scan, bucket := b, slot := 0
                   examined := if fresh then 1 else q.examined
                   overflow := decide (h 3 ≠ 0) } })
       ∧ (¬ (fresh ∧ .rollDown ∈ s.fault.stop) → ¬ good →
           ∃ t, exec .searchSeek s = .next t ∧ s.SearchEnded t .damaged none [.fault]
             ∧ s.FaultsRaised t [(.rollSeek, 0, BitVec.ofNat 16 b.toNat)] id id))
  ∧ (∀ s : State, s.permit.lock.holder = some .search → s.permit.dying = true →
     let buried (c : Instr) :=
       ∃ t, exec c s = .next t ∧ s.Effect t none [] [.permit] []
         ∧ t.permit = { s.permit with dying := false }.released s.today
     buried .searchSeek ∧ buried .searchScan)

/-- The scan of a bucket (R99 to R102): slots in order, EMPTY and VACATED passed over, RECORD_CRC raised for each
damaged slot read, until a slot with the number; a damaged one gives DAMAGED, a readable one the verdict of R101 in
its order. Without one the search goes on to the next bucket of the chain while the overflow flag is set and the
probe limit not reached, and else gives NOT_FOUND. -/
def Obligations.ScanGivesTheVerdict : Prop :=
  ∀ (s : State) (q : Search), s.permit.lock.holder = some .search → s.permit.dying = false →
    s.permit.search = some q → q.phase = .scan →
      let rec_ (k : Nat) : List Word := s.slotWords q.bucket k
      let passed (k : Nat) : Bool := recStatus (rec_ k) == 0 || recStatus (rec_ k) == 3
      let slots := List.range' q.slot (8 - q.slot)
      let hit := slots.find? fun k => !passed k && recNumber (rec_ k) == q.number
      let read := match hit with
        | some k => slots.filter fun j => decide (j ≤ k)
        | none => slots
      let broken := read.filter fun k => damaged (rec_ k)
      let changed : List Part := if broken = [] then [] else [.fault]
      let treatment (k : Nat) : Byte :=
        (bandAt s.tariff.cache q.minute.toNat).band.treatment (recCategory (rec_ k))
      let verdict (k : Nat) : Verdict :=
        let r := rec_ k
        if damaged r then .damaged
        else if recStatus r = 2 then .revoked
        else if q.today.toNat < recFrom r then .notYet
        else if recTo r < q.today.toNat then .expired
        else if ¬ s.cfg.zone ∈ (recZones r).take (recZoneCount r) then .wrongZone
        else if treatment k = 255 then .notHere
        else if recUsedOn r = q.today ∧ recAllowance r ≤ recUsed r then .allowanceUsed
        else .valid
      let raised (t : State) :=
        s.FaultsRaised t (broken.map fun k => (.recordCrc, 0, BitVec.ofNat 16 (8 * q.bucket.toNat + k))) id id
      (∀ k, hit = some k → verdict k ≠ .valid →
        ∃ t, exec .searchScan s = .next t ∧ s.SearchEnded t (verdict k) none changed ∧ raised t)
      ∧ (∀ k, hit = some k → verdict k = .valid →
          ∃ t, exec .searchScan s = .next t
            ∧ s.SearchEnded t .valid
                (some { number := q.number, category := recCategory (rec_ k), discount := treatment k
                        bucket := q.bucket, slot := k }) changed
            ∧ raised t)
      ∧ (hit = none → q.overflow = true → q.examined < s.cfg.probeLimit →
          ∃ t, exec .searchScan s = .next t ∧ s.Effect t none [] (.permit :: changed) []
            ∧ t.permit = { s.permit with
                search := some { q with
                  phase := .seek, bucket := q.bucket + 1, examined := q.examined + 1 } }
            ∧ raised t)
      ∧ (hit = none → ¬ (q.overflow = true ∧ q.examined < s.cfg.probeLimit) →
          ∃ t, exec .searchScan s = .next t ∧ s.SearchEnded t .notFound none changed ∧ raised t)

/-- The commit permit step (R105 to R107, R11): the slot is re-read and tested in order, today being that of the
moment at which the step was handed the lock (`commitDay`, which every row that hands the lock over takes:
`PermitUnit.handedOn`). That ROLL_DOWN, the first clause of `verdict`, and the tests after it are judged at this
row and not when the lock was handed over is log 48, the model's choice. A step that passes hands over the record
with one more use charged and its spare byte 0 (R185), and the close goes on with the lock held (before a period
close that waits: the model's choice, log 36, `closeHanded`); one that fails releases the lock and withdraws the
permit: the COMMIT is answered PERMIT_WITHDRAWN (22) and the sale goes back to OPEN and is repriced, or is voided
under a voiding condition. -/
def Obligations.CommitPermitStepRechecksThePermit : Prop :=
  ∀ (s : State) (p : PermitInUse), s.path.map.isSome = true → s.sale.permit = some p →
    s.sale.state = .committing → s.sale.permitPart = none → s.permit.lock.holder = some .commitStep →
      let r := s.slotWords p.bucket p.slot
      let today := s.permit.commitDay
      let verdict : Option Verdict :=
        if .rollDown ∈ s.fault.stop then some .noRoll
        else if recStatus r = 0 ∨ recStatus r = 3 then some .notFound
        else if damaged r then some .damaged
        else if recNumber r ≠ p.number then some .notFound
        else if recStatus r = 2 then some .revoked
        else if today.toNat < recFrom r then some .notYet
        else if recTo r < today.toNat then some .expired
        else if ¬ s.cfg.zone ∈ (recZones r).take (recZoneCount r) then some .wrongZone
        else if recUsedOn r = today ∧ recAllowance r ≤ recUsed r then some .allowanceUsed
        else none
      (verdict = none →
        let used := if recUsedOn r = today then wordOf r 9 + 1 else 1
        let body := r.take 5 ++ [mkWord (hiByte (wordOf r 5)) 0] ++ (r.drop 6).take 3 ++ [used, today]
          ++ (r.drop 11).take 4
        let pence := penceOf s.sale.late s.cfg.denoms
        let u : SaleUnit :=
          { s.sale with
            permitPart := some { bucket := p.bucket, slot := p.slot, image := body ++ [crc body] }
            refundDue := BitVec.ofNat 16 (min pence 65535)
            commitFlags :=
              1 ||| (if pence = 0 then 0 else 2) ||| (if s.sale.price.overpay = 0 then 0 else 4) }
        ∃ t, exec .commitPermitStep s = .next t ∧ s.Effect t none [] [.sale, .cash] (s.handWrites u)
          ∧ t.sale = u ∧ t.cash = s.closeHanded u)
      ∧ ∀ v, verdict = some v →
          let u : SaleUnit := { s.sale with permit := none, verdict := v, idle := 0, saleCmd := 22 }
          let q := { s.permit with permitReq := BitVec.ofNat 16 v.code }.released s.today
          let changed : List Part := if v = .damaged then [.fault] else []
          let recorded (t : State) (after : Sources → Sources) :=
            s.FaultsRaised t
              (if v = .damaged then [(.recordCrc, 0, BitVec.ofNat 16 (8 * p.bucket.toNat + p.slot))] else [])
              id after
          ((∀ c ∈ s.fault.stop, c.voids = none) →
            ∃ t, exec .commitPermitStep s = .next t
              ∧ s.Effect t none [.permitResp, .saleResp, .tenderResp, .price]
                  ([.sale, .permit, .engine] ++ changed) []
              ∧ t.sale =
                  { u with
                    state := .opened
                    inhibit := if s.sale.escrowTotal = s.cfg.escrowCap
                        ∨ s.fault.stop.any Condition.blocksCoin = true then 1 else 0 }
              ∧ t.permit = q ∧ s.Reprices t True ∧ recorded t id)
          ∧ ((∃ c ∈ s.fault.stop, c.voids ≠ none) →
              let x : State := { s with sale := u, permit := q }
              let w := x.voidedSale (if .doorOpen ∈ s.fault.stop then .doorOpened else .stopped)
                (if s.sale.waitCommit then 17 else 22)
              ∃ t, exec .commitPermitStep s = .next t
                ∧ s.Effect t none [.permitResp, .saleResp, .tenderResp]
                    [.sale, .permit, .engine, .cash, .fault] (s.handWrites w)
                ∧ x.VoidBegun t w ∧ recorded t (·.raised .sale 1))

/-- The scrub step (R121): under ROLL_DOWN, tested at the row (log 48, the model's choice), the lock is released and the
cursor stays; otherwise the bucket at the cursor is checked, a bad header raising ROLL_SEEK and each damaged slot
RECORD_CRC, the roll is not written, the cursor advances and the lock is released. -/
def Obligations.ScrubChecksOneBucket : Prop :=
  ∀ s : State, s.permit.lock.holder = some .scrub →
    let b := s.permit.scrubCursor
    let h (i : Nat) : Word := s.word (s.at .roll (16 + 136 * b.toNat + i))
    let good := h 0 = BitVec.ofNat 16 b.toNat ∧ h 1 = 0xFFFF - BitVec.ofNat 16 b.toNat
      ∧ h 7 = crc [h 0, h 1, h 2, h 3, h 4, h 5, h 6]
    let broken := (List.range' 0 8).filter fun k => damaged (s.slotWords b k)
    let found : List (FaultClass × Byte × Word) :=
      if good then broken.map fun k => (.recordCrc, 0, BitVec.ofNat 16 (8 * b.toNat + k))
      else [(.rollSeek, 0, BitVec.ofNat 16 b.toNat)]
    (.rollDown ∈ s.fault.stop →
      ∃ t, exec .scrubStep s = .next t ∧ s.Effect t none [] [.permit] []
        ∧ t.permit = s.permit.released s.today)
    ∧ (.rollDown ∉ s.fault.stop →
        ∃ t, exec .scrubStep s = .next t
          ∧ s.Effect t none [] (.permit :: if found = [] then [] else [.fault]) []
          ∧ t.permit = { s.permit with scrubCursor := b + 1 }.released s.today ∧ s.FaultsRaised t found id id)

/-! ## The amendment queue -/

/-- A tail request (R109): taken when it is 0 to 31 and moves the tail forward round the ring, refused (TAIL_REFUSED,
17) otherwise; AMEND_RESP is owed and the entries pass to the part only when it is written. -/
def Obligations.TailRequestsMoveForward : Prop :=
  ∀ (v : Word) (s : State), s.Takes .amendTail →
    let n := (s.permit.tail - s.permit.head).toNat
    let moved := (BitVec.ofNat 5 v.toNat - s.permit.head).toNat
    let ok := v.toNat ≤ 31 ∧ n < moved
    ∃ t, exec (.amendTail v) s = .next t ∧ s.Took t .amendTail v [.amendResp] [.permit] []
      ∧ t.permit =
          { s.permit with
            tail := if ok then BitVec.ofNat 5 v.toNat else s.permit.tail
            amendStatus := if ok then 16 else 17 }

/-- An entry is tested before it touches the roll (R111): BAD_OP (21) for an operation that is not 1 to 5, DAMAGED (22)
while the header state is BAD and the operation is not ROLL_CLEAR, BAD_RECORD (20) for an image that fails; nothing
of the roll is written but the roll header of step 5. -/
def Obligations.EntriesAreTestedBeforeTheRollIsTouched : Prop :=
  ∀ (s : State) (m : WindowMap), s.path.map = some m → m.placed = true →
    let ends (c : Instr) (result : Word) :=
      ∃ t, exec c s = .next t ∧ s.Amended t result s.permit [] [] id
    let image := s.headImage
    let number := (recNumber image).toNat
    let zones := (recZones image).take (recZoneCount image)
    let numberFails := ¬ (1 ≤ number ∧ number ≤ 0xFFFFFFFE)
    let fails := numberFails ∨ ¬ (1 ≤ (recCategory image).toNat ∧ (recCategory image).toNat ≤ 3)
      ∨ ¬ (1 ≤ recZoneCount image ∧ recZoneCount image ≤ 4) ∨ 0 ∈ zones
      ∨ (∃ z ∈ (recZones image).drop (recZoneCount image), z ≠ 0)
      ∨ recTo image < recFrom image ∨ ¬ (1 ≤ recAllowance image ∧ recAllowance image ≤ 15)
      ∨ loByte (wordOf image 5) ≠ 0
    (∀ op, s.Applies op → ¬ (1 ≤ op ∧ op ≤ 5) → ends .badOp 21)
    ∧ (s.permit.headerGood = false →
        (s.Applies 1 → ends .add 22) ∧ (s.Applies 2 → ends .replace 22)
        ∧ (s.Applies 3 → ends .revoke 22) ∧ (s.Applies 4 → ends .delete 22))
    ∧ (s.permit.headerGood = true → fails →
        (s.Applies 1 → ends .add 20) ∧ (s.Applies 2 → ends .replace 20))
    ∧ (s.permit.headerGood = true → numberFails →
        (s.Applies 3 → ends .revoke 20) ∧ (s.Applies 4 → ends .delete 20))

/-- The walk of an amendment (R91, R112, R119): from the home bucket on, it follows the chain while no target is
met, the overflow flag is set and fewer buckets than the probe limit have been examined. ADD (R113): a bucket
header that fails in the walk, or among the further buckets of the chain looked at when the walk met no free slot,
gives DAMAGED (22) with ROLL_SEEK; a target gives DUPLICATE (17); no free slot within the probe limit gives
ROLL_FULL (19) and raises it. Otherwise the record goes to the first free slot: overflow flags first, in chain
order (log 57, the model's choice), then the record with its status word last, then the bucket's header; the result
is APPLIED (16). -/
def Obligations.AddPlacesTheRecord : Prop :=
  (∀ (s : State) (m : WindowMap) (restart : Bool) (number : DWord), s.path.map = some m → m.placed = true →
     s.Walks restart number (s.walkFor restart number))
  ∧ (∀ (w : Walk) (restart : Bool) (fuel : Nat) (next : BitVec 9), w.finish = .absent →
     w.Extends (w.extend restart fuel next) restart fuel next)
  ∧ (∀ (s : State) (bs : List (BitVec 9)),
     s.freePlace bs =
       (bs.flatMap fun b => (List.range 8).map fun k => (b, k)).find? fun p =>
         recStatus (s.slotWords p.1 p.2) == 0 || recStatus (s.slotWords p.1 p.2) == 3)
  ∧ ∀ (s : State) (m : WindowMap), s.path.map = some m → m.placed = true → s.Canonical → s.Bounded →
    s.Applies 1 → s.permit.headerGood = true → badImage s.headImage = false →
      let u := s.inProgress
      let image := s.headImage
      let home := homeBucket (recNumber image)
      let walk := u.walkFor false (recNumber image)
      let chain :=
        if (u.freePlace walk.seen).isSome then walk
        else walk.extend false (s.cfg.probeLimit - walk.seen.length) (home + BitVec.ofNat 9 walk.seen.length)
      let failsAt (b : BitVec 9) :=
        ∃ t, exec .add s = .next t
          ∧ s.Amended t 22 s.permit [] [(.rollSeek, 0, BitVec.ofNat 16 b.toNat)] id
      (∀ b, walk.finish = .failed b → failsAt b)
      ∧ (∀ b k, walk.finish = .target b k →
          ∃ t, exec .add s = .next t ∧ s.Amended t 17 s.permit [] [] id)
      ∧ (walk.finish = .absent →
          (∀ b, chain.finish = .failed b → failsAt b)
          ∧ (chain.finish = .absent → u.freePlace chain.seen = none →
              ∃ t, exec .add s = .next t
                ∧ s.Amended t 19 s.permit [] [(.rollFull, 0, BitVec.ofNat 16 home.toNat)] id)
          ∧ ∀ b k, chain.finish = .absent → u.freePlace chain.seen = some (b, k) →
              let flagged := (chain.seen.takeWhile (· != b)).filter fun c => !u.overflowOf c
              let n := u.othersIn b k + 1
              let count := flagged.foldl (fun c d => u.countWith c d (u.occupied d)) s.permit.recordCount
              ∃ t, exec .add s = .next t
                ∧ s.Amended t 16 { s.permit with recordCount := u.countWith count b n }
                    (flagged.flatMap (fun d => u.headerWrites d (u.occupied d) true)
                      ++ u.recordWrites b k (newRecord image 0 0)
                      ++ u.headerWrites b n (u.overflowOf b)) [] id)

/-- REPLACE, REVOKE and DELETE act on the target of their walk (R114 to R116; the walk is that of
`Obligations.AddPlacesTheRecord`): without one they give NOT_FOUND (18), and a bucket header that fails gives
DAMAGED (22) with ROLL_SEEK. REPLACE writes the image over the target, keeping the uses as far as the new allowance
allows; REVOKE writes the check word and then the status REVOKED of a readable target, and gives DAMAGED with
RECORD_CRC for a damaged one; DELETE writes VACATED and then the bucket's header. -/
def Obligations.ReplaceRevokeDeleteActOnTheTarget : Prop :=
  ∀ (s : State) (m : WindowMap) (c : Instr) (op : Nat), s.path.map = some m → m.placed = true →
    s.Canonical → s.Applies op → (c, op) ∈ [(Instr.replace, 2), (.revoke, 3), (.delete, 4)] →
      s.permit.headerGood = true → badNumber s.headImage = false →
        (c = .replace → badImage s.headImage = false) →
          let u := s.inProgress
          let image := s.headImage
          let walk := u.walkFor false (recNumber image)
          (∀ b, walk.finish = .failed b →
            ∃ t, exec c s = .next t
              ∧ s.Amended t 22 s.permit [] [(.rollSeek, 0, BitVec.ofNat 16 b.toNat)] id)
          ∧ (walk.finish = .absent → ∃ t, exec c s = .next t ∧ s.Amended t 18 s.permit [] [] id)
          ∧ ∀ b k, walk.finish = .target b k →
              let old := u.slotWords b k
              let header (n : Nat) := u.headerWrites b n (u.overflowOf b)
              let counted (n : Nat) : PermitUnit :=
                { s.permit with recordCount := u.countWith s.permit.recordCount b n }
              (c = .replace →
                let used := BitVec.ofNat 16 (min (recUsed old) (recAllowance image))
                let writes := u.recordWrites b k (newRecord image used (recUsedOn old))
                let kept := recStatus old = 1 ∨ recStatus old = 2
                let n := u.othersIn b k + 1
                ∃ t, exec .replace s = .next t
                  ∧ s.Amended t 16 (if kept then s.permit else counted n)
                      (writes ++ if kept then [] else header n) [] id)
              ∧ (c = .revoke →
                  let body := old.take 2 ++ [mkWord 2 (recCategory old)] ++ (old.drop 3).take 12
                  let a := u.slotAddr b k
                  (readable old = true →
                    ∃ t, exec .revoke s = .next t
                      ∧ s.Amended t 16 s.permit
                          [(a + 30, crc body), (a + 4, mkWord 2 (recCategory old))] [] id)
                  ∧ (readable old = false →
                      ∃ t, exec .revoke s = .next t
                        ∧ s.Amended t 22 s.permit []
                            [(.recordCrc, 0, BitVec.ofNat 16 (8 * b.toNat + k))] id))
              ∧ (c = .delete →
                  ∃ t, exec .delete s = .next t
                    ∧ s.Amended t 16 (counted (u.othersIn b k))
                        ((u.slotAddr b k + 4, 0x0300) :: header (u.othersIn b k)) [] id)

/-- ROLL_CLEAR (R117) formats the roll: the mark of the roll header is written 0, every bucket header and slot status is
written empty, then the roll header; the record count is 0, the header state GOOD, and ROLL_DOWN is absent
afterwards. The result is APPLIED (16). -/
def Obligations.RollClearFormatsTheRoll : Prop :=
  ∀ (s : State) (m : WindowMap), s.path.map = some m → m.placed = true → s.Applies 5 →
    let bucket (b : BitVec 9) : List (Nat × Word) :=
      s.headerWrites b 0 false ++ (List.range 8).map fun k => (s.slotAddr b k + 4, 0)
    let limit : Word := BitVec.ofNat 16 s.cfg.probeLimit
    let sequence := s.dword (s.entryAddr s.permit.head + 2)
    ∃ t, exec .rollClear s = .next t
      ∧ s.Amended t 16 { s.permit with recordCount := 0, headerGood := true, lastSeq := sequence }
          ([(s.at .roll 0, 0)]
            ++ (List.range 512).flatMap (fun n => bucket (BitVec.ofNat 9 n))
            ++ runWrites (s.at .roll 0) (rollHeader limit 0 sequence)) [] (·.filter (· != .rollDown))

/-! ## The pricing engine -/

/-- Band lookup (R50, R51, R52): the day type comes from the exceptions, else the weekday map; the band in force is the
last that starts at or below the minute of day, and ends where the next starts, or at 1440; an empty cache gives a
NO_PARKING band. A permit reduces a band's rate by the treatment of its category. A run as it starts (R48, R52 to
R55): the walk stands at the priced minute with the whole tender. Without a walk end, with their results: a run with
an empty cache, one with nothing tendered and no permit, and one below the minimum charge unless the band at the
priced minute is CHARGED at a rate of 0. -/
def Obligations.PriceRunsStartInTheBandInForce : Prop :=
  ((∀ (b : BookCache) (m : Nat),
     let f := bandAt (some b) m
     let day := m / 1440
     f.dayType =
         (match b.zone.exceptions.find? fun e => e.1 == day % 65536 with
           | some e => e.2
           | none => b.zone.weekdays.getD ((day + 5) % 7) 0)
       ∧ ∀ first rest, b.zone.dayTypes[f.dayType]? = some (first :: rest) → first.start = 0 →
           ((first :: rest).map Band.start).Pairwise (· < ·) → (∀ x ∈ first :: rest, x.start < 1440) →
             (first :: rest)[f.index]? = some f.band ∧ f.band.start ≤ m % 1440
               ∧ (∀ (j : Nat) (x : Band), (first :: rest)[j]? = some x → f.index < j → m % 1440 < x.start)
               ∧ f.finish =
                   day * 1440 + (match (first :: rest)[f.index + 1]? with
                     | some x => x.start
                     | none => 1440))
  ∧ (∀ m : Nat, (bandAt none m).dayType = 0 ∧ (bandAt none m).index = 0
       ∧ (bandAt none m).band.kind = .noParking)
   ∧ ∀ b : Band, b.effectiveRate none = b.rate
       ∧ ∀ c : Byte,
           let byte := if c = 1 then b.resident else if c = 2 then b.visitor else b.trade
           b.effectiveRate (some c) = b.rate * (100 - (if byte = 255 then 0 else byte.toNat)) / 100)
  ∧ (∀ (cache : Option BookCache) (q : PriceRequest),
     let r := PriceRun.ofRequest cache q
     let f := bandAt cache q.t0
     let short (flags info bookId : Word) : PriceResult :=
       { expiry := BitVec.ofNat 32 q.t0, charge := 0, overpay := 0, flags := flags, bandInfo := info
         bookId := bookId, pricedAt := BitVec.ofNat 32 q.t0 }
     let info := mkWord (BitVec.ofNat 8 f.dayType) (BitVec.ofNat 8 f.index)
     let saved := f.band.kind = .charged ∧ f.band.effectiveRate q.permit = 0
     (r.t0 = q.t0 ∧ r.tendered = q.tendered ∧ r.permit = q.permit ∧ r.p = q.t0 ∧ r.c = 0
       ∧ r.m = q.tendered ∧ r.flags = 0 ∧ r.dayType = f.dayType ∧ r.bandIndex = f.index)
     ∧ (cache = none → r.result = some (short 0 0 0))
     ∧ ∀ b, cache = some b →
         (q.tendered = 0 → q.permit = none → r.result = some (short 0 info b.id))
         ∧ (0 < q.tendered → q.tendered < b.zone.minCharge → ¬ saved →
             r.result = some (short 16 info b.id))
         ∧ (q.tendered = 0 ∧ q.permit ≠ none ∨ 0 < q.tendered ∧ (b.zone.minCharge ≤ q.tendered ∨ saved) →
             r.result = none))

/-- A band step takes the band in force at the walk position by the rule for its kind (R55 to R63), and so either moves
on or stops with the result, CLIPPED_STAY being raised by any step that moves to the walk limit (R62); a run that
has its result hands it to the sale unit and PRICE is reported (R64); an overtaken run ends at its next step, and a
new request's run starts in its place (R49). A run that begins at the walk limit takes a step of no length and ends
with the flags that the clauses give (log 39, the model's choice). -/
def Obligations.BandStepsWalkToTheResult : Prop :=
  ∀ (s : State) (r : PriceRun), s.tariff.engine.run = some r →
    let goes (c : Instr) (e : PriceEngine) :=
      ∃ t, exec c s = .next t ∧ s.Effect t none [] [.engine] [] ∧ t.tariff.engine = e
    let ends (c : Instr) :=
      (s.tariff.engine.overtaken = .stop → goes c { run := none, overtaken := .no })
      ∧ ∀ q, s.tariff.engine.overtaken = .restart q →
          goes c { run := some (PriceRun.ofRequest s.tariff.cache q), overtaken := .no }
    ends .bandStep
    ∧ (r.result ≠ none → ends .priceRunComplete)
    ∧ (∀ v, r.result = some v → s.tariff.engine.overtaken = .no →
        ∃ t, exec .priceRunComplete s = .next t ∧ s.Effect t none [] [.engine, .sale] []
          ∧ t.tariff.engine = { run := none, overtaken := .no } ∧ t.sale = { s.sale with price := v }
          ∧ (.price ∈ s.path.owed → .group .price ∈ t.path.ready))
    ∧ ∀ b, r.result = none → s.tariff.cache = some b → s.tariff.engine.overtaken = .no →
        let z := b.zone
        let f := z.find r.p
        let limit := min (r.t0 + 10080) 0xFFFFFFFE
        let flag (w : Word) (x : Bool) : Word := if x then w else 0
        let on (x : PriceRun) := goes .bandStep { run := some x, overtaken := .no }
        let stop (x : PriceRun) :=
          let flags := x.flags ||| flag 64 (decide (0 < x.m))
          goes .bandStep
            { run := some { x with
                flags := flags
                result := some
                  { expiry := BitVec.ofNat 32 x.p, charge := BitVec.ofNat 16 (r.tendered - x.m)
                    overpay := BitVec.ofNat 16 x.m, flags := flags
                    bandInfo := mkWord (BitVec.ofNat 8 r.dayType) (BitVec.ofNat 8 r.bandIndex)
                    bookId := b.id, pricedAt := BitVec.ofNat 32 r.t0 } }
              overtaken := .no }
        let rate := f.band.effectiveRate r.permit
        let e := min (f.finish - r.p) (min (z.maxStay - r.c) (limit - r.p))
        let reduced := decide (rate < f.band.rate) && decide (0 < e)
        let bands (n : Nat) : Found := Nat.repeat (fun x : Found => z.find x.finish) n (z.find f.finish)
        let ahead := ∃ n < 100, (∀ k, k < n → (bands k).band.kind = .free ∧ (bands k).finish < limit)
          ∧ f.finish < limit ∧ (bands n).band.kind = .charged ∧ (bands n).band.effectiveRate r.permit = 0
        let moved (x : PriceRun) :=
          (z.maxStay ≤ x.c ∨ limit ≤ x.p →
            stop { x with flags := x.flags ||| flag 2 (decide (limit ≤ x.p) || decide (0 < x.m)) })
          ∧ (¬ (z.maxStay ≤ x.c ∨ limit ≤ x.p) → on x)
        (f.band.kind = .noParking → stop { r with flags := r.flags ||| flag 4 (decide (0 < r.m)) })
        ∧ (f.band.kind = .free →
            let crosses := 0 < r.m ∨ r.permit ≠ none ∧ ahead
            (¬ crosses → stop r)
            ∧ (crosses → f.finish < limit → on { r with p := f.finish, flags := r.flags ||| 8 })
            ∧ (crosses → limit ≤ f.finish → stop { r with p := limit, flags := r.flags ||| 8 ||| 2 }))
        ∧ (f.band.kind = .charged →
            (rate = 0 →
              moved { r with p := r.p + e, c := r.c + e, flags := r.flags ||| flag 32 reduced })
            ∧ (0 < rate → r.m = 0 → stop r)
            ∧ (0 < rate → 0 < r.m → e * rate ≤ r.m * f.band.unit →
                moved { r with
                  p := r.p + e, c := r.c + e, m := r.m - (e * rate + f.band.unit - 1) / f.band.unit
                  flags := r.flags ||| flag 32 reduced })
            ∧ (0 < rate → 0 < r.m → r.m * f.band.unit < e * rate →
                let q := r.m * f.band.unit / rate
                let rem := r.m * f.band.unit % rate
                let minutes (mode : Rounding) : Nat :=
                  match mode with
                  | .down | .fromBook => q
                  | .up => if rem = 0 then q else q + 1
                  | .nearestTiesUp => if rate ≤ 2 * rem then q + 1 else q
                  | .nearestTiesDown => if rate < 2 * rem then q + 1 else q
                let n : Nat := minutes (if f.band.rounding = .fromBook then z.defaultRounding else f.band.rounding)
                stop { r with
                  p := r.p + n, c := r.c + n, m := 0
                  flags := r.flags ||| flag 1 (decide (rem ≠ 0)) ||| flag 32 (reduced && n != 0)
                    ||| flag 2 (decide (limit ≤ r.p + n)) }))

/-! ## Closes -/

/-- The steps of an armed close (R133, R134): each writes its record from the images and then the step-done word, 1 to
4; a void writes no box, a close without a permit part no permit record, and after a permit record the roll lock is
released. The sale record step makes SALE_RESP and TENDER_RESP ready with the close's values: ACCEPTED for a commit,
the state the close ends in, no escrow, no late coins and INHIBIT 0. The images of a sale's close (R127, R132, R185,
R189) are the journal entry, the open period with the close's changes and its spare words 0, the tally with a
commit's escrow, and a commit's permit part; a sale with no permit in use records category 0 and number 0 (log 19).
The intent holds them with the step done 0; its slot word with no permit part is the model's choice (log 41). -/
def Obligations.CloseStepsWriteTheImages : Prop :=
  (∀ s : State,
     let u := s.sale
     let c := s.saleCloseImages
     let commit := u.state = .committing
     let two (d : DWord) : List Word := [loWord d, hiWord d]
     let minute : DWord := if s.time.timeSet = true then s.time.minute else 0xFFFFFFFF
     let coins : Word := sum16 (u.escrow.toList.map BitVec.toNat).sum
     let category : Byte :=
       match u.permit with
       | some p => p.category
       | none => 0
     let number : DWord :=
       match u.permit with
       | some p => p.number
       | none => 0
     let entry : List Word :=
       two u.number ++ [if commit then 1 else 2, if commit then 0 else BitVec.ofNat 16 u.voidReason.code]
         ++ two minute ++ two u.price.pricedAt ++ two u.price.expiry
         ++ [u.price.bookId, u.price.bandInfo, u.coinPence, u.cardPence, if commit then u.price.charge else 0,
             if commit then u.price.overpay else 0, u.refundDue, coins, u.price.flags,
             mkWord (BitVec.ofNat 8 u.verdict.code) category]
         ++ two number ++ [u.lateTotal]
     let p := s.cash.period
     let more (w : Word) (n : Nat) : Word := BitVec.ofNat 16 (min (w.toNat + n) 65535)
     let first : DWord := if p.firstSeq = 0 then u.number else p.firstSeq
     let lates := more p.lateCoins u.lateTotal.toNat
     let charged (d : DWord) (n : Nat) : DWord := if commit then sum32 (d.toNat + n) else d
     let vaulted (d : Fin 8) : Word :=
       if commit then sum16 (p.vaulted[d].toNat + u.escrow[d].toNat) else p.vaulted[d]
     let refunded (d : Fin 8) : DWord :=
       let held : DWord :=
         if commit then p.refunded[d] else sum32 (p.refunded[d].toNat + u.escrow[d].toNat)
       sum32 (held.toNat + u.late[d].toNat)
     let period : List Word :=
       two p.number ++ two p.opened ++ two p.closed
         ++ [p.closeKind, if commit then more p.committed 1 else p.committed,
             if commit then p.voided else more p.voided 1,
             if commit ∧ u.commitFlags.getLsbD 0 = true then more p.permitSales 1 else p.permitSales]
         ++ two (charged p.cardPence u.cardPence.toNat) ++ two (charged p.chargePence u.price.charge.toNat)
         ++ two (charged p.overpayPence u.price.overpay.toNat)
         ++ (List.finRange 8).map vaulted ++ p.stray.toList
         ++ (List.finRange 8).flatMap (fun d => two (refunded d)) ++ two first ++ two u.number
         ++ [p.intrusions, lates] ++ List.replicate 9 0
     let k := s.cash.tally
     let box : List Word :=
       (List.finRange 8).map
           (fun d => if commit then sum16 (k.counts[d].toNat + u.escrow[d].toNat) else k.counts[d])
         ++ [if commit then sum16 (k.coins.toNat + (u.escrow.toList.map BitVec.toNat).sum) else k.coins]
         ++ two (charged k.value u.coinPence.toNat)
     c = { kind := if commit then .commit else .void, number := u.number
           journal := entry ++ [crc entry], period := period ++ [crc period], box := box ++ [crc box]
           permit := if commit then u.permitPart else none, stepDone := 0, saleWritten := false
           tenderWritten := false })
  ∧ (∀ c : Close,
     c.intentWords =
       [0, loWord c.number, hiWord c.number,
        match c.kind with
        | .commit => 1
        | .void => 2
        | .period => 3]
       ++ (match c.permit with
           | some p => [BitVec.ofNat 16 p.bucket.toNat, BitVec.ofNat 16 p.slot]
           | none => [0xFFFF, 0])
       ++ [0] ++ c.journal ++ c.period ++ c.box ++ List.replicate 4 0
       ++ match c.permit with
          | some p => p.image
          | none => List.replicate 16 0)
  ∧ ∀ (s : State) (c : Close), s.path.map.isSome = true → s.cash.close = some c → c.kind ≠ .period →
    let next (n : Nat) (ws : List (Nat × Word)) :=
      ∃ t, exec .closeStep s = .next t
        ∧ s.Effect t none [] [.cash] (ws ++ [(s.at .cash 33, BitVec.ofNat 16 n)])
        ∧ t.cash = { s.cash with close := some { c with stepDone := n } }
    (c.stepDone = 0 → next 1 (runWrites (s.at .cash (1248 + 24 * (c.number.toNat % 512))) c.journal))
    ∧ (c.stepDone = 1 → next 2 (runWrites (s.at .cash 1184) c.period))
    ∧ (c.stepDone = 2 → next 3 (if c.kind = .commit then runWrites (s.at .cash 0) c.box else []))
    ∧ (c.stepDone = 3 → c.permit = none → next 4 [])
    ∧ (∀ p, c.stepDone = 3 → c.permit = some p →
        ∃ t, exec .closeStep s = .next t
          ∧ s.Effect t none [] [.cash, .permit]
              (s.recordWrites p.bucket p.slot p.image ++ [(s.at .cash 33, 4)])
          ∧ t.cash = { s.cash with close := some { c with stepDone := 4 } }
          ∧ t.permit = s.permit.released s.today)
    ∧ (c.stepDone = 4 → s.sale.recordStep = false →
        let commit := s.sale.state = .committing
        ∃ t, exec .closeStep s = .next t ∧ s.Effect t none [] [.sale] []
          ∧ t.sale =
              { s.sale with
                recordStep := true, inhibit := 0, saleCmd := if commit then 16 else s.sale.saleCmd }
          ∧ t.groupWords .saleResp =
              [if commit then 16 else s.sale.saleCmd, if commit then 4 else 5,
               loWord s.sale.number, hiWord s.sale.number, s.sale.refundDue,
               BitVec.ofNat 16 s.sale.voidReason.code, s.sale.commitFlags]
          ∧ t.groupWords .tenderResp =
              [s.sale.coinIn, s.sale.cardIn, sum16 (s.sale.coinPence.toNat + s.sale.cardPence.toNat), 0, 0]
                ++ List.replicate 8 0
          ∧ ∀ g, g = .saleResp ∨ g = .tenderResp → g ∈ s.path.owed → t.busy g = false →
              .group g ∈ t.path.ready)

/-- The end of a sale's close (R134): JNEXT, JRESERVED, the step done 6 and the intent state NONE are written; the
tally, the open period and the indices take the close's values; a commit tests the box (R126); what waited for the
open period is taken (R128); the context passes to CLOSED or VOID with no escrow and no late coins (R10, R22), a due
changeover is begun (R83) unless its step 1 has failed since the last minute mark (R84), and what waited in the sale
unit is taken, in order. In start-up, what waits for the close then goes on (R181, R182), in the same step (log 24,
DEDUCED). The order in which groups become ready in it is log 46, the model's choice. -/
def Obligations.TheEndOfACloseEndsTheSale : Prop :=
  ∀ (s : State) (c : Close), s.path.map.isSome = true → s.cash.close = some c → c.kind ≠ .period →
    c.stepDone = 5 → s.sale.state = .committing ∨ s.sale.state = .voiding →
        let coins := wordOf c.box 8
        let near := c.kind = .commit ∧ s.cash.nearLatch = false
          ∧ (s.cfg.capacity * s.cfg.nearPercent + 99) / 100 ≤ coins.toNat
        let full := c.kind = .commit ∧ s.cfg.capacity ≤ coins.toNat
          ∧ s.cash.tally.coins.toNat < s.cfg.capacity
        let next := sum32 (c.number.toNat + 1)
        let d := s.drained
          { s.cash with
            tally := Tally.ofWords c.box, period := PeriodRecord.ofWords c.period, nextSeq := next
            reserved := false, close := none, nearLatch := if near then true else s.cash.nearLatch }
        ∃ u, s.ComesTo .closeEnd (s.sale.held.foldl State.takeSaleNow u).goneOn
          ∧ s.Effect u none [] ([.sale, .cash, .tariff] ++ if near ∨ full then [.fault] else [])
              ([(s.at .cash 12, loWord next), (s.at .cash 12 + 2, hiWord next), (s.at .cash 16, 0),
                (s.at .cash 33, 6), (s.at .cash 32, 0)] ++ d.2)
          ∧ u.cash = d.1
          ∧ u.sale =
              { s.sale with
                state := if s.sale.state = .committing then .closed else .void
                escrow := Eight.all 0, late := Eight.all 0, lateTotal := 0, recordStep := false
                permitPart := none, held := [] }
          ∧ u.tariff = { s.tariff with
              change := if s.tariff.due = true ∧ s.tariff.retry = false ∧ s.tariff.change = none then
                          some .toActivate
                        else s.tariff.change }
          ∧ s.FaultsRaised u ((if near then [(.boxNear, 0, coins)] else [])
              ++ if full then [(.boxFull, 0, coins)] else []) id id

/-- A due period close is taken once no sale's close is in flight (R146): its images are formed from the open
period and the machine minute, and the intent is written. That while a sale is COMMITTING or VOIDING and has not
handed its close over, nothing happens, is the model's choice (log 36). The steps of a period close (R147): the
closed image to its ring slot (15 for a period 0, log 32, the model's choice), the new open period, the empty box,
and PNEXT, the close-owed mark and NONE, each with its step-done word; then the next period is open with an empty
box, BOX_FULL is removed from the stop set, the CASH source is raised with the compartment state, and what waited
is taken, a place kept for a sale's close that has not come being passed over. In start-up, what waits for the
close then goes on (R182), in the same step (log 24, DEDUCED; its ready order: log 46, the model's choice). -/
def Obligations.PeriodClosesAreFormedAndFiled : Prop :=
  (∀ (s : State) (rest : List CashWork), s.path.map.isSome = true → s.cash.close = none →
     s.cash.waiting = .periodClose :: rest →
       let comes := (s.sale.state = .committing ∨ s.sale.state = .voiding) ∧ .saleClose ∉ s.cash.waiting
       let closed := { s.cash.period with
         closed := if s.time.timeSet = true then s.time.minute else 0xFFFFFFFF
         closeKind := 1, spares := Vector.replicate 9 0 }
       let c : Close :=
         { kind := .period, number := s.cash.period.number, journal := List.replicate 24 0
           period := closed.body ++ [crc closed.body]
           box := List.replicate 11 0 ++ [crc (List.replicate 11 0)]
           permit := none, stepDone := 0, saleWritten := false, tenderWritten := false }
       (comes → ∃ t, exec .periodClose s = .next t ∧ s.WroteOnly t [] ∧ s.KeepsBut t [])
       ∧ (¬ comes →
           ∃ t, exec .periodClose s = .next t ∧ s.Effect t none [] [.cash] (s.intentWrites c)
             ∧ t.cash = { s.cash with close := some c, waiting := rest }))
  ∧ (∀ (s : State) (c : Close), s.path.map.isSome = true → s.cash.close = some c → c.kind = .period →
       let fresh : PeriodRecord :=
         { PeriodRecord.zero with
           number := sum32 ((dwordOf c.period 0).toNat + 1), opened := dwordOf c.period 4 }
       let next (n : Nat) (ws : List (Nat × Word)) :=
         ∃ t, exec .periodCloseStep s = .next t
           ∧ s.Effect t none [] [.cash] (ws ++ [(s.at .cash 33, BitVec.ofNat 16 n)])
           ∧ t.cash = { s.cash with close := some { c with stepDone := n } }
       (c.stepDone = 0 → next 1 (runWrites (s.at .cash (160 + 64 * ((c.number.toNat + 15) % 16))) c.period))
       ∧ (c.stepDone = 1 → next 2 (runWrites (s.at .cash 1184) (fresh.body ++ [crc fresh.body])))
       ∧ (c.stepDone = 2 → next 3 (runWrites (s.at .cash 0) c.box))
       ∧ (c.stepDone = 3 →
           let d := s.drained
             { s.cash with
               period := fresh, tally := Tally.zero, pnext := loWord fresh.number, nearLatch := false
               closeOwed := false, close := none }
           let freed := s.inhibitFreed .boxFull
           let cash := s.fault.sources.get .cash
           ∃ t, s.ComesTo .periodCloseStep t.goneOn
             ∧ s.Effect t none (if freed then [.tenderResp] else [])
                 ([.cash, .fault] ++ if freed then [.sale] else [])
                 ([(s.at .cash 17, loWord fresh.number), (s.at .cash 22, 0), (s.at .cash 33, 4),
                   (s.at .cash 32, 0)] ++ d.2)
             ∧ t.cash = d.1 ∧ t.sale = s.saleFreed .boxFull
             ∧ t.fault = { s.fault with
                 stop := s.fault.stop.filter (· != .boxFull)
                 sources := s.fault.sources.set .cash
                   { cash with notice := BitVec.ofNat 16 s.cash.compartment.code
                               pend := cash.pend || cash.enabled } }))

/-- Export requests (R131, R148): a mark at or above the old one and below the next sequence (the next period) is taken,
and any other leaves the mark; the mark is answered either way. An accepted journal export that leaves a free slot
removes JOURNAL_FULL. -/
def Obligations.ExportMarksMoveForward : Prop :=
  ∀ (v : Word) (s : State),
    (s.Takes .jexportHigh →
      let e := mkDWord s.cash.exportLow v
      let ok := s.cash.exportMark.toNat ≤ e.toNat ∧ e.toNat < s.cash.nextSeq.toNat
      let free := s.cash.nextSeq.toNat + (if s.cash.reserved then 1 else 0) ≤ 512 + e.toNat
      ∃ t, exec (.jexport v) s = .next t ∧ s.Took t .jexportHigh v [.jexportResp] [.cash, .fault] []
        ∧ t.cash = { s.cash with exportMark := if ok then e else s.cash.exportMark }
        ∧ t.fault = { s.fault with
            stop := if ok ∧ free then s.fault.stop.filter (· != .journalFull) else s.fault.stop })
    ∧ (s.Takes .pexport →
        let ok := s.cash.pexport.toNat ≤ v.toNat ∧ v.toNat < s.cash.pnext.toNat
        ∃ t, exec (.pexport v) s = .next t ∧ s.Took t .pexport v [.pexportResp] [.cash] []
          ∧ t.cash = { s.cash with pexport := if ok then v else s.cash.pexport })

/-! ## The fault unit, attention, time -/

/-- SERVICE_CMD (R164): the low byte is the request. SALES_OFF (1) adds SALES_OFF to the stop set and SALES_ON (2)
removes it, whatever the high byte; CLEAR_STOP (3) removes MACHINE_STOP for 8 and ROLL_DOWN for 10, present or not,
and for any other high byte is answered NOT_CLEARABLE (17); any other low byte UNKNOWN (18). FAULT_CMD (R157): POP
moves the oldest record to the view register as its eight words (R192) and is answered DONE (16); with an empty list
the view becomes zeros and the answer EMPTY (17); any other value is answered UNKNOWN (18) with list and view
unchanged. FAULT_VIEW is written with the answer in every case. REPORT_CMD (R158): a value of 1 to 255 raises
MACHINE with it as the sub-code, through record, route and attention (R153 to R156, R161), and is answered DONE
(16): with the route STOP, MACHINE_STOP is added, and its addition voids an OPEN sale with reason STOPPED; that the
void's close goes before a period close that waits is the model's choice (log 36, `closeHanded`). Any other value is
answered BAD_CODE (17) and raises nothing. -/
def Obligations.FaultUnitRequestsAreCarriedOut : Prop :=
  (∀ s : State, s.Takes .serviceCmd →
     let answered (c : Instr) (v code : Word) (stop : List Condition) :=
       ∃ t, exec c s = .next t ∧ s.Took t .serviceCmd v [.serviceResp] [.fault] []
         ∧ t.fault = { s.fault with stop := stop, serviceCmd := code }
         ∧ (stop ≠ s.fault.stop → .image .stopSet ∈ t.path.ready)
     let without (c : Condition) := s.fault.stop.filter (· != c)
     (∀ h : Byte, answered (.salesOff h) (mkWord h 1) 16
       (if .salesOff ∈ s.fault.stop then s.fault.stop else s.fault.stop ++ [.salesOff]))
     ∧ (∀ h : Byte, answered (.salesOn h) (mkWord h 2) 16 (without .salesOff))
     ∧ answered (.clearStop 8) 0x0803 16 (without .machineStop)
     ∧ answered (.clearStop 10) 0x0A03 16 (without .rollDown)
     ∧ (∀ h : Byte, h ≠ 8 → h ≠ 10 → answered (.clearStop h) (mkWord h 3) 17 s.fault.stop)
     ∧ ∀ v : Word, (Instr.serviceCmdUnknown v).wellFormed = true →
         answered (.serviceCmdUnknown v) v 18 s.fault.stop)
  ∧ (∀ s : State, s.Takes .faultCmd →
     let answered (c : Instr) (v code : Word) (list : List FaultRecord) (view : List Word) :=
       ∃ t, exec c s = .next t ∧ s.Took t .faultCmd v [.faultResp] [.fault] []
         ∧ t.fault = { s.fault with list := list, view := view, faultCmd := code }
         ∧ t.groupWords .faultResp = code :: view
     (∀ r rest, s.fault.list = r :: rest →
       answered .pop 1 16 rest
         [mkWord (BitVec.ofNat 8 r.cls.code) r.sub, r.seq, loWord r.minute, hiWord r.minute,
          loWord r.saleNumber, hiWord r.saleNumber, r.detail,
          mkWord (BitVec.ofNat 8 r.saleState.code) r.followers])
     ∧ (s.fault.list = [] → answered .pop 1 17 [] (List.replicate 8 0))
     ∧ ∀ v : Word, (Instr.faultCmdUnknown v).wellFormed = true →
         answered (.faultCmdUnknown v) v 18 s.fault.list s.fault.view)
  ∧ (∀ (v : Word) (s : State), s.Takes .reportCmd →
     ((Instr.report v).wellFormed = true →
       let stops := (s.routeOf .machine).route = .stop ∧ .machineStop ∉ s.fault.stop
       let voided := stops ∧ s.sale.state = .opened
       let u := s.voidedSale .stopped (if s.sale.waitCommit then 17 else s.sale.saleCmd)
       ∃ t, exec (.report v) s = .next t
         ∧ s.Took t .reportCmd v ([.reportResp] ++ if voided then [.saleResp, .tenderResp] else [])
             ([.fault] ++ if voided then [.sale, .cash, .permit, .engine] else [])
             (if voided then s.handWrites u else [])
         ∧ (voided → s.VoidBegun t u)
         ∧ s.Recorded t .machine (loByte v) 0
         ∧ t.fault = { s.fault with
             list := t.fault.list, seq := t.fault.seq, reportCmd := 16
             stop := if stops then s.fault.stop ++ [.machineStop] else s.fault.stop
             sources := s.attended .machine 4 (decide voided) })
     ∧ ((Instr.reportBadCode v).wellFormed = true →
         ∃ t, exec (.reportBadCode v) s = .next t ∧ s.Took t .reportCmd v [.reportResp] [.fault] []
           ∧ t.fault = { s.fault with reportCmd := 17 }))

/-- COLLECT_CMD (R143, R145, R148). AUTHORISE is answered BAD_STATE (18), NO_KEY (17) or RING_FULL (19), with
PERIOD_RING_FULL raised, in this order; else DONE (16), the state AUTHORISED with the configured count.
CLEAR_INTRUSION is answered BAD_STATE, NO_KEY, or DONE: the flag is cleared and INTRUSION removed. Any other value
is answered UNKNOWN (20). A change of state, flag or count is written to the mirrors (R137). -/
def Obligations.CollectRequestsAreDecidedInOrder : Prop :=
  ∀ s : State, s.Takes .collectCmd →
    let answered (c : Instr) (v code : Word) :=
      ∃ t, exec c s = .next t ∧ s.Took t .collectCmd v [.collectResp] [.cash] []
        ∧ t.cash = { s.cash with collectCmd := code }
    let shut := s.cash.compartment = .sealed
    let key := s.lines.key.level = some true
    let full := 16 ≤ s.cash.pnext.toNat - 1 - s.cash.pexport.toNat ∨ s.cash.period.number = 65535
    (¬ shut → answered .authorise 1 18)
    ∧ (shut → ¬ key → answered .authorise 1 17)
    ∧ (shut → key → full →
        ∃ t, exec .authorise s = .next t ∧ s.Took t .collectCmd 1 [.collectResp] [.cash, .fault] []
          ∧ t.cash = { s.cash with collectCmd := 19 }
          ∧ s.Recorded t .periodRingFull 0 (loWord s.cash.period.number)
          ∧ t.fault = { s.fault with
              list := t.fault.list, seq := t.fault.seq
              sources := s.attended .periodRingFull 4 false })
    ∧ (shut → key → ¬ full →
        let c := { s.cash with compartment := .authorised, authCount := s.cfg.authTime, collectCmd := 16 }
        ∃ t, exec .authorise s = .next t
          ∧ s.Took t .collectCmd 1 [.collectResp] [.cash] (s.mirrorWrites c) ∧ t.cash = c)
    ∧ (¬ (shut ∧ s.cash.intrusion = true) → answered .clearIntrusion 2 18)
    ∧ (shut → s.cash.intrusion = true → ¬ key → answered .clearIntrusion 2 17)
    ∧ (shut → s.cash.intrusion = true → key →
        let c := { s.cash with intrusion := false, collectCmd := 16 }
        ∃ t, exec .clearIntrusion s = .next t
          ∧ s.Took t .collectCmd 2 [.collectResp] [.cash, .fault] (s.mirrorWrites c) ∧ t.cash = c
          ∧ t.fault = { s.fault with stop := s.fault.stop.filter (· != .intrusion) })
    ∧ ∀ v : Word, (Instr.collectCmdUnknown v).wellFormed = true → answered (.collectCmdUnknown v) v 20

/-- TIME (R176): FFFFFFFFh is answered BAD_TIME (17) with nothing else changed; any other value becomes the machine
minute, the time is set, TIME_UNSET is removed, a day rollover asks for the daily check, an OPEN sale is repriced,
and the answer is DONE (16). That a rollover adds nothing to a check that waits is log 40, the model's choice. -/
def Obligations.TimeRequestsSetTheMinute : Prop :=
  ∀ (v : Word) (s : State), s.Takes .timeHi →
    let m := mkDWord s.time.low v
    let priced := s.sale.state = .opened
    let rolls := s.time.timeSet = false ∨ s.time.minute.toNat / 1440 ≠ m.toNat / 1440
    (m = 0xFFFFFFFF →
      ∃ t, exec (.time v) s = .next t ∧ s.Took t .timeHi v [.timeResp] [.time] []
        ∧ t.time = { s.time with timeHi := 17 })
    ∧ (m ≠ 0xFFFFFFFF →
        ∃ t, exec (.time v) s = .next t
          ∧ s.Took t .timeHi v ([.timeResp] ++ if priced then [.price] else [])
              ([.time, .tariff, .fault] ++ if priced then [.engine] else []) []
          ∧ t.time = { s.time with minute := m, timeSet := true, timeHi := 16 }
          ∧ t.tariff = { s.tariff with
              checkDue := s.tariff.checkDue || decide rolls, engine := t.tariff.engine }
          ∧ t.fault = { s.fault with stop := s.fault.stop.filter (· != .timeUnset) }
          ∧ (priced → s.PriceStarted t
              { t0 := m.toNat, tendered := s.sale.tendered
                permit := s.sale.permit.map PermitInUse.category }))

/-! ## Lines -/

/-- A delivered change of DOOR or BOX that voids no sale (R136 to R141, R149): the compartment goes by the table of
R138 to R141, a due period close waits, behind the place it keeps for a sale's close still to come when another
period close is in flight (R146, `duesWaiting`), its faults are raised in order, conditions leave and join the stop
set, BOX_ABSENT sets or frees INHIBIT of an OPEN sale, and the CASH source is raised last with the compartment
state, freezing the LINES latch when it is enabled and the latch live. A door opening that voids an OPEN sale (R22,
R138, R161): from AUTHORISED with reason DOOR_OPENED, and from SEALED or SEALED_EMPTY, where INTRUSION is routed
STOP, with reason STOPPED. SALE_VOIDED is raised; a forced entry waits for the void's close. That the void's close
goes before a period close that waits, and that a forced entry waits behind a due period close with no close in
flight, are the model's choices (log 36), and so is that the mirrors are written before a forced entry's count (log
50). Before start-up ends (R137) the change is taken too, the compartment state apart: the levels, CASH and LINES
follow it, and a box insertion removes BOX_ABSENT (log 15, DEDUCED). -/
def Obligations.DoorAndBoxChangesFollowTheTable : Prop :=
  (∀ (l : Line) (s : State) (m : WindowMap), s.path.map = some m → s.path.mode = .running → l ≠ .key →
     (s.lines.get l).timer = some 0 → (s.lines.get l).level ≠ none →
       let raw := (s.lines.get l).raw
       let box := if l = .box then raw else s.lines.box.asserted
       let o := lineOutcome s.cash.compartment l raw box
       let levels : Levels :=
         { door := if l = .door then raw else s.lines.door.asserted, box := box
           key := s.lines.key.asserted }
       let stops (c : FaultClass) := (s.routeOf c).route = .stop
       let stop0 := s.fault.stop.filter fun c => o.removes != some c
       let stop1 := if o.adds then withCondition stop0 .doorOpen else stop0
       let raised (c : FaultClass) := c ∈ o.faults.map Prod.fst ∧ stops c
       let stop2 := if raised .intrusion then withCondition stop1 .intrusion else stop1
       let stop3 := if raised .boxAbsent then withCondition stop2 .boxAbsent else stop2
       let voids := s.sale.state = .opened
         ∧ ((o.adds = true ∧ .doorOpen ∉ stop0) ∨ (raised .intrusion ∧ .intrusion ∉ stop1))
       let freed := o.removes = some .boxAbsent ∧ s.inhibitFreed .boxAbsent = true
       let blocked := s.sale.state = .opened ∧ raised .boxAbsent ∧ .boxAbsent ∉ stop2
       let counted := s.forcedCounted (s.cashAfter o) o.forced
       ¬ voids →
         ∃ t, exec (.lineChange l) s = .next t
           ∧ s.Effect t none (if freed ∨ blocked then [.tenderResp] else [])
               ([.lines, .cash, .fault] ++ if freed ∨ blocked then [.sale] else [])
               (s.compartmentWrites o ++ counted.2)
           ∧ t.lines = s.lines.set l { raw := raw, level := some raw, timer := none }
           ∧ t.cash = { counted.1 with latch := s.latchAfter levels }
           ∧ t.sale =
               (if freed then s.saleFreed .boxAbsent
                else if blocked then { s.sale with inhibit := 1 } else s.sale)
           ∧ s.RecordedAll t (o.faults.map fun x => (x.1, 0, x.2))
           ∧ t.fault = { s.fault with
               list := t.fault.list, seq := t.fault.seq, stop := stop3
               sources :=
                 (o.faults.foldl
                   (fun q x => ({ s with fault.sources := q } : State).attended x.1
                     (if x.1 = .boxAbsent then 2 else 4) false)
                   s.fault.sources).raised .cash (BitVec.ofNat 16 o.state.code) }
           ∧ (t.shownLevels ≠ s.shownLevels → .image .lines ∈ t.path.ready))
  ∧ (∀ (s : State) (m : WindowMap), s.path.map = some m → s.path.mode = .running →
     s.lines.door.raw = true → s.lines.door.timer = some 0 → s.lines.door.level ≠ none →
       s.sale.state = .opened →
         let levels : Levels := { door := true, box := s.lines.box.asserted, key := s.lines.key.asserted }
         let o := lineOutcome s.cash.compartment .door true s.lines.box.asserted
         let x : State := { s with cash := s.cashAfter o }
         let voids (u : SaleUnit) (t : State) :=
           exec (.lineChange .door) s = .next t
             ∧ s.Effect t none [.saleResp, .tenderResp] [.lines, .cash, .fault, .sale, .permit, .engine]
                 (s.compartmentWrites o ++ x.handWrites u)
             ∧ t.lines = { s.lines with door := { raw := true, level := some true, timer := none } }
             ∧ x.VoidBegun { t with cash := x.closeHanded u } u
             ∧ t.cash = { x.closeHanded u with
                 waiting := (x.closeHanded u).waiting ++ if o.forced then [.forcedEntry] else []
                 latch := s.latchAfter levels }
         let cmd : Word := if s.sale.waitCommit then 17 else s.sale.saleCmd
         (s.cash.compartment = .authorised → .doorOpen ∉ s.fault.stop →
           ∃ t, voids (s.voidedSale .doorOpened cmd) t
             ∧ t.fault = { s.fault with
                 stop := s.fault.stop ++ [.doorOpen]
                 sources := (s.fault.sources.raised .sale 1).raised .cash 2 })
         ∧ (s.cash.compartment = .sealed ∨ s.cash.compartment = .sealedEmpty →
             (s.routeOf .intrusion).route = .stop → .intrusion ∉ s.fault.stop →
               ∃ t, voids (s.voidedSale .stopped cmd) t ∧ s.Recorded t .intrusion 0 1
                 ∧ t.fault = { s.fault with
                     list := t.fault.list, seq := t.fault.seq, stop := s.fault.stop ++ [.intrusion]
                     sources := (s.attended .intrusion 4 true).raised .cash 6 }))
  ∧ (∀ (l : Line) (s : State), s.path.mode = .starting → l ≠ .key → (s.lines.get l).timer = some 0 →
     (s.lines.get l).level ≠ none →
       let raw := (s.lines.get l).raw
       let inserted := l = .box ∧ raw = true
       let freed := inserted ∧ s.inhibitFreed .boxAbsent = true
       let levels : Levels :=
         { door := if l = .door then raw else s.lines.door.asserted
           box := if l = .box then raw else s.lines.box.asserted, key := s.lines.key.asserted }
       ∃ t, exec (.lineChange l) s = .next t
         ∧ s.Effect t none (if freed then [.tenderResp] else [])
             ([.lines, .cash, .fault] ++ if freed then [.sale] else []) []
         ∧ t.lines = s.lines.set l { raw := raw, level := some raw, timer := none }
         ∧ t.cash = { s.cash with latch := s.latchAfter levels }
         ∧ t.sale = (if freed then s.saleFreed .boxAbsent else s.sale)
         ∧ t.fault = { s.fault with
             stop := if inserted then s.fault.stop.filter (· != .boxAbsent) else s.fault.stop
             sources := s.fault.sources.raised .cash (BitVec.ofNat 16 s.cash.compartment.code) }
         ∧ (t.shownLevels ≠ s.shownLevels → .image .lines ∈ t.path.ready))

/-- A delivered change of KEY (R77, R79, R149): a withdrawal reaches the tariff unit, which marks the slot of an
OPEN session REJECTED, at once or when its program has ended, and notes it in an ERASING one; the CASH source is
raised. Before start-up ends no session is OPEN that it could abort (R137, log 15, DEDUCED). A line whose timer has
not run out, or a part in TRANSPARENT, delivers nothing (R136, log 15): a LINE_CHANGE there does nothing (log 2,
the model's choice). That a withdrawal met while an abort is marking waits for the marking is log 22 (DEDUCED; what
the marking's end does with it is of `FlashOperationsEndAndTheirUsersGoOn`), and that one met while ERASING waits
for the session's own operation is log 47 (the model's choice). -/
def Obligations.KeyChangesReachTheTariffUnit : Prop :=
  ∀ (l : Line) (s : State) (m : WindowMap), s.path.map = some m →
    let due := s.path.mode ≠ .transparent ∧ (s.lines.get l).timer = some 0 ∧ (s.lines.get l).level ≠ none
    let raw := s.lines.key.raw
    let session := s.tariff.session
    let levels : Levels := { door := s.lines.door.asserted, box := s.lines.box.asserted, key := raw }
    let delivers (tariff : TariffUnit) (flash : FlashPins) :=
      ∃ t, exec (.lineChange .key) s = .next t
        ∧ s.Effect t none [] [.lines, .cash, .fault, .tariff, .flash] []
        ∧ t.lines = { s.lines with key := { raw := raw, level := some raw, timer := none } }
        ∧ t.cash = { s.cash with latch := s.latchAfter levels }
        ∧ t.fault = { s.fault with
            sources := s.fault.sources.raised .cash (BitVec.ofNat 16 s.cash.compartment.code) }
        ∧ t.tariff = tariff ∧ t.flash = flash
        ∧ (t.shownLevels ≠ s.shownLevels → .image .lines ∈ t.path.ready)
    (¬ due → ∃ t, exec (.lineChange l) s = .next t ∧ s.WroteOnly t [] ∧ s.KeepsBut t [])
    ∧ (due → l = .key → s.path.mode = .starting → delivers s.tariff s.flash)
    ∧ (due → l = .key → s.path.mode = .running →
        (raw = true ∨ session.state = .ending ∨ session.state = .closed → delivers s.tariff s.flash)
        ∧ (raw = false → session.state = .erasing →
            delivers { s.tariff with session.keyLost := true } s.flash)
        ∧ (raw = false → session.state = .opened → s.tariff.prog.job ≠ none →
            delivers { s.tariff with session.waits := session.waits ++ [.keyWithdrawn] } s.flash)
        ∧ (raw = false → session.state = .opened → s.tariff.prog.job = none →
            let j := s.marking session.slot 0 (.abortMark true)
            delivers { s.tariff with prog := s.progAsked j } (s.flashAsked j)))

/-- The line monitor (R136, R182). A raw change starts the timer of a settled line when it departs from the debounced
level and stops it when it returns; an unsettled line's interval begins afresh; before the configuration is loaded
only the raw level is noted. A line that has held one level for the interval without a debounced level settles at
it, delivering nothing; at the settle limit every unsettled line is taken at its raw level. LINES is to be rewritten
when its value changes (R149), an unsettled line counting as deasserted (log 49, the model's choice). A LINE_SETTLED
or LINE_SETTLE_LIMIT whose condition does not hold does nothing (log 2, the model's choice). -/
def Obligations.LinesAreDebouncedAndSettle : Prop :=
  ∀ (l : Line) (level : Bool) (s : State),
    let r := s.lines.get l
    let keeps (c : Instr) (changed : List Part) (lines : LineMonitor) :=
      ∃ t, exec c s = .next t ∧ s.WroteOnly t [] ∧ s.KeepsBut t changed ∧ t.lines = lines
    let raw (timer : Option Nat) := s.lines.set l { r with raw := level, timer := timer }
    let settled (x : LineRegs) : LineRegs :=
      if x.level = none then { raw := x.raw, level := some x.raw, timer := none } else x
    let ready := s.path.map ≠ none ∧ r.level = none ∧ r.timer = some 0
    let m := s.lines.set l (settled r)
    let all := m.door.level ≠ none ∧ m.box.level ≠ none ∧ m.key.level ≠ none
    let settles (c : Instr) (lines : LineMonitor) :=
      ∃ t, exec c s = .next t ∧ s.WroteOnly t [] ∧ s.KeepsBut t [.lines, .ready] ∧ t.lines = lines
        ∧ ∀ x, x ∈ t.path.ready ↔
            x ∈ s.path.ready ∨ (x = .image .lines ∧ t.shownLevels ≠ s.shownLevels)
    (r.raw = level → keeps (.rawLineChange l level) [] s.lines)
    ∧ (r.raw ≠ level → s.path.map = none → keeps (.rawLineChange l level) [.lines] (raw r.timer))
    ∧ (r.raw ≠ level → s.path.map ≠ none →
        keeps (.rawLineChange l level) [.lines]
          (raw (if r.level = some level then none else some s.cfg.debounceMs)))
    ∧ (¬ ready → keeps (.lineSettled l) [] s.lines)
    ∧ (ready → ¬ (s.start.phase = .waitLines ∧ all) →
        settles (.lineSettled l)
          { m with settleLimit := if all then none else s.lines.settleLimit })
    ∧ (s.lines.settleLimit ≠ some 0 → keeps .lineSettleLimit [] s.lines)
    ∧ (s.lines.settleLimit = some 0 → s.start.phase ≠ .waitLines →
        settles .lineSettleLimit
          { door := settled s.lines.door, box := settled s.lines.box, key := settled s.lines.key
            settleLimit := none })

/-! ## The minute mark -/

/-- A minute mark (R175): with the time unset, or at FFFFFFFEh, nothing happens; outside RUNNING only the minute
advances. In RUNNING it is delivered: an OPEN sale counts one more idle mark and is repriced, or at the limit voided
with reason IDLE_TIMEOUT and SALE_VOIDED (R19); a pending book whose effective minute has come is due, and a due
changeover is begun with the sale IDLE, CLOSED or VOID, BOOK_DEFERRED being raised if it becomes due otherwise, or
if it was to be begun again after a failed step 1 (R82 to R84, R86); minute of day 0 asks for the daily check
(R177); a FREE roll lock is asked for by the scrub unless ROLL_DOWN is there (R121); the authorisation count falls,
and at 0 the compartment is SEALED and CASH raised (R144). IDLE_TIMEOUT and AUTHORISATION_END are the marks that
reach those limits (log 16). The order of one mark's deliveries, seen in the words driven (a void's intent before
the mirrors), is log 17; that the void's close goes before a period close that waits is log 36; that a second
rollover adds nothing to a check that waits is log 40: the model's choices. -/
def Obligations.MinuteMarksAreDelivered : Prop :=
  ∀ (c : Instr) (s : State),
    let counts := s.time.timeSet = true ∧ s.time.minute.toNat < 0xFFFFFFFE
    let x : State := { s with time.minute := s.time.minute + 1 }
    let priced := s.sale.state = .opened ∧ s.sale.idle + 1 ≠ s.cfg.idleLimit
    let ends := s.sale.state = .opened ∧ s.sale.idle + 1 = s.cfg.idleLimit
    let quiet := s.sale.state = .idle ∨ s.sale.state = .closed ∨ s.sale.state = .void
    let comes : Bool :=
      match s.tariff.pendingSlot with
      | some p => !s.tariff.due && decide (s.tariff.hand ≠ some .cancelPending)
          && decide ((s.effectiveMinute p).toNat ≤ x.time.minute.toNat)
      | none => false
    let up := comes = true ∨ (s.tariff.due = true ∧ s.tariff.retry = true)
    let allowed := s.cash.compartment = .authorised
    let authEnds := allowed ∧ s.cash.authCount ≤ 1
    let delivers := counts ∧ s.path.mode = .running
    (c = .minuteMark ∨ c = .idleTimeout ∨ c = .authorisationEnd → ¬ counts →
      ∃ t, exec c s = .next t ∧ s.WroteOnly t [] ∧ s.KeepsBut t [])
    ∧ (counts → s.path.mode ≠ .running →
        ∃ t, exec .minuteMark s = .next t ∧ s.WroteOnly t [] ∧ s.KeepsBut t [.time] ∧ t.time = x.time)
    ∧ ((c = .idleTimeout ∧ ¬ (delivers ∧ ends)) ∨ (c = .authorisationEnd ∧ ¬ (delivers ∧ authEnds)) →
        ∃ t, exec c s = .next t ∧ s.WroteOnly t [] ∧ s.KeepsBut t [])
    ∧ (delivers → s.path.map.isSome = true →
        c = .minuteMark ∨ (c = .idleTimeout ∧ ends) ∨ (c = .authorisationEnd ∧ authEnds) →
          ∃ (t : State) (q : PermitUnit), exec c s = .next t
            ∧ (let cmd : Word := if s.sale.waitCommit then 17 else s.sale.saleCmd
               let u : SaleUnit :=
                 if ends then { x.voidedSale .idleTimeout cmd with idle := s.sale.idle + 1 }
                 else if priced then { s.sale with idle := s.sale.idle + 1 } else s.sale
               let k := if ends then x.closeHanded u else s.cash
               let authed : CashUnit :=
                 if authEnds then { k with compartment := .sealed, authCount := 0 }
                 else if allowed then { k with authCount := k.authCount - 1 } else k
               let r := if ends ∧ s.permit.search.isSome = true then { q with permitReq := 26 } else q
               let q1 := if ends then s.fault.sources.raised .sale 1 else s.fault.sources
               let q2 := if up ∧ ¬ quiet then q1.raised .book 2 else q1
               s.Effect t none
                   (if ends then [.saleResp, .tenderResp] else if priced then [.price] else [])
                   [.time, .sale, .tariff, .engine, .permit, .cash, .fault]
                   ((if ends then x.handWrites u else [])
                     ++ if allowed then s.mirrorWrites authed else [])
                 ∧ t.time = x.time ∧ t.sale = u ∧ t.cash = authed
                 ∧ (ends → t.tariff.engine =
                     if s.busy .price then { s.tariff.engine with overtaken := .stop } else s.tariff.engine)
                 ∧ (priced → x.PriceStarted t
                     { t0 := x.time.minute.toNat, tendered := s.sale.tendered
                       permit := s.sale.permit.map PermitInUse.category })
                 ∧ (¬ ends → ¬ priced → t.tariff.engine = s.tariff.engine)
                 ∧ t.tariff = { s.tariff with
                     engine := t.tariff.engine
                     due := s.tariff.due || comes
                     retry := if up then false else s.tariff.retry
                     checkDue := s.tariff.checkDue || decide (x.time.minute.toNat % 1440 = 0)
                     change :=
                       if (s.tariff.due = true ∨ up) ∧ s.tariff.change = none ∧ quiet then
                         some .toActivate
                       else s.tariff.change }
                 ∧ (ends → s.permit.abandoned q) ∧ (¬ ends → q = s.permit)
                 ∧ t.permit =
                     (if s.permit.lock.holder = none ∧ .rollDown ∉ s.fault.stop then r.asked .scrub x.today else r)
                 ∧ t.fault = { s.fault with sources := if authEnds then q2.raised .cash 0 else q2 }))

/-! ## Books -/

/-- BOOK_CMD (R75, R76, R80, R81): each request is answered at once (NO_KEY 17, BUSY 18, NO_SESSION 19, UNKNOWN 22), or
stays in hand with BOOK_RESP owed while the programmer does what it asks for: the erase of the slot chosen, the
LOADED or REJECTED marking of the session slot once its program has ended, the RETIRED marking of the pending slot.
A job asked for while the programmer works waits behind its jobs (log 23, the model's choice), and an INSTALL_END or
INSTALL_ABORT that comes while an abort is marking waits for the marking (log 22, DEDUCED). -/
def Obligations.BookRequestsAreTakenOrAnswered : Prop :=
  ∀ s : State, s.Takes .bookCmd →
    let key := s.lines.key.level = some true
    let T := s.tariff
    let changing := T.due = true ∨ T.change ≠ none
    let S := T.session
    let answered (c : Instr) (v code : Word) :=
      ∃ t, exec c s = .next t ∧ s.Took t .bookCmd v [.bookResp] [.tariff] []
        ∧ t.tariff = { T with bookCmd := code, hand := none }
    let asks (c : Instr) (v : Word) (tariff : TariffUnit) (j : FlashJob) :=
      ∃ t, exec c s = .next t ∧ s.Took t .bookCmd v [.bookResp] [.tariff, .flash] []
        ∧ t.tariff = { tariff with prog := s.progAsked j } ∧ t.flash = s.flashAsked j
        ∧ .group .bookResp ∉ t.path.ready
    let waits (c : Instr) (v : Word) (r : BookRequest) :=
      ∃ t, exec c s = .next t ∧ s.Took t .bookCmd v [.bookResp] [.tariff] []
        ∧ t.tariff = { T with hand := some r, session.waits := S.waits ++ [.request r] }
        ∧ .group .bookResp ∉ t.path.ready
    (¬ key → answered .installBegin 1 17)
    ∧ (key → S.state ≠ .closed ∨ changing → answered .installBegin 1 18)
    ∧ (key → S.state = .closed → ¬ changing →
        let slot : BookSlot :=
          match T.inForce, T.pendingSlot with
          | some .a, _ => .b
          | some .b, _ => .a
          | none, some p => p
          | none, none => .a
        asks .installBegin 1
          { T with
            hand := some .installBegin
            pendingSlot := if T.pendingSlot = some slot then none else T.pendingSlot
            stale := if T.stale = some slot then none else T.stale
            session := { state := .erasing, slot := slot, keyLost := false, waits := [] } }
          { op := .erase (s.bookAddr slot), use := .beginErase })
    ∧ (S.state ≠ .opened → answered .installEnd 2 19 ∧ answered .installAbort 3 19)
    ∧ (S.state = .opened → T.prog.job ≠ none →
        waits .installEnd 2 .installEnd ∧ waits .installAbort 3 .installAbort)
    ∧ (S.state = .opened → T.prog.job = none →
        asks .installEnd 2 { T with hand := some .installEnd, session.state := .ending }
          (s.marking S.slot 0x3FFF .endLoaded)
        ∧ asks .installAbort 3 { T with hand := some .installAbort } (s.marking S.slot 0 .abortRequest))
    ∧ (changing → answered .cancelPending 4 18)
    ∧ (¬ changing → T.pendingSlot = none → answered .cancelPending 4 19)
    ∧ (∀ p, ¬ changing → T.pendingSlot = some p →
        asks .cancelPending 4 { T with hand := some .cancelPending } (s.marking p 0x07FF .cancelMark))
    ∧ ∀ v : Word, (Instr.bookCmdUnknown v).wellFormed = true → answered (.bookCmdUnknown v) v 22

/-- The end of a flash operation (R68, R74): by FBUSY, with the slot erased or the word's bits cleared; or at the
wait limit with FLASH_TIMEOUT, the flash having changed no word but its operation's (what it leaves there is log
11, the model's choice). Then what asked for it goes on (R77 to R81, R84, R85), and the programmer takes its next
job; the corners of the session are log 22 (DEDUCED), and the order of the jobs is log 23 (the model's choice). In
step 2 of start-up the procedure goes on from the marking that has ended (R87; log 25, the model's choice), in the
same step (log 24, DEDUCED; its ready order: log 46, the model's choice). FBUSY deasserted with no command in
flight lets a waiting programmer make its command writes. A row whose condition does not hold does nothing: an end
with no operation in flight, FBUSY low or the programmer waiting for FBUSY; a wait limit with a timer that has not
run out (log 2, the model's choice). A CANCEL_PENDING marking that fails and leaves ACTIVE keeps the slot pending
(log 53, the model's choice). What a KEY withdrawal met in the REJECTED marking of a failed erase does at its end
is log 55, and that one met in the marking of a request is dropped is log 56, the model's choices. -/
def Obligations.FlashOperationsEndAndTheirUsersGoOn : Prop :=
  ∀ (s : State) (left : List Word),
    let goesOn (c : Instr) (j : FlashJob) (memory : Memory) (flash : FlashPins) (ended : Bool)
        (faults : List (FaultClass × Byte × Word)) :=
      let o := { s with mem := memory }.flashOutcome j.use ended
      let jobs := s.tariff.prog.jobs ++ o.next.toList
      let raised := faults ++ o.rejected.toList.map fun d => (.bookRejected, 0, d)
      let groups := if o.answers then [.bookResp] else []
      ∃ u, s.ComesTo c (if o.releases then u.openReleased else u)
        ∧ s.Owes u groups ∧ u.path.slot = s.slotAfter none groups ∧ u.driven = [] ∧ u.mem = memory
        ∧ s.KeepsBut u ([.owed, .ready, .slot, .tariff, .flash] ++ if raised = [] then [] else [.fault])
        ∧ u.tariff = { o.tariff with prog := s.progWith flash.fbusy jobs }
        ∧ u.flash = flashWith flash jobs
        ∧ s.RecordedAll u raised
        ∧ u.fault = { s.fault with
            list := u.fault.list, seq := u.fault.seq
            sources := raised.foldl
              (fun q x => ({ s with fault.sources := q } : State).attended x.1 4 false) s.fault.sources }
    let idles (c : Instr) := ∃ t, exec c s = .next t ∧ t.mem = s.mem ∧ t.driven = [] ∧ s.KeepsBut t []
    let within (memory : Memory) :=
      s.Canonical → ∀ a, memory.read a ≠ s.mem.read a →
        match s.flash.op with
        | some (.erase base) => base ≤ a ∧ a < base + 8192
        | some (.program at_ _) => a = at_ ∨ a = at_ + 1
        | none => False
    let idle : Programmer := { job := none, waitsFbusy := false, timer := none, jobs := [] }
    (∀ j stage a v, s.start.phase = .books stage → s.tariff.prog.job = some j → s.tariff.prog.jobs = [] →
      j.op = .program a v →
      (j.use = .startReject ∨ (∃ old, j.use = .startRetire old) ∨ ∃ d, j.use = .startRejectPending d) →
        (s.tariff.prog.waitsFbusy = false → s.flash.fbusy = true →
          s.ComesTo .flashOpEnd
            (({ s.begin with
                mem := s.mem.writeWord a (s.word a &&& v), flash := { fbusy := false, op := none }
                tariff.prog := idle } : State).fromMarking j.use stage))
        ∧ (s.tariff.prog.timer = some 0 → s.flash.fbusy = true →
            let late := (s.begin.flashLeft left).raise .flashTimeout (BitVec.ofNat 16 a)
            s.ComesTo (.flashWaitLimit left)
              (({ late with tariff.prog := idle } : State).fromMarking j.use stage)))
    ∧ (∀ j, (∀ b, s.start.phase ≠ .books b) → s.tariff.prog.job = some j →
      (s.tariff.prog.waitsFbusy = false → s.flash.fbusy = true →
        ∃ memory, goesOn .flashOpEnd j memory { fbusy := false, op := none } true []
          ∧ (s.Canonical →
              (∀ base, j.op = .erase base → ∀ a, memory.read a =
                if base ≤ a ∧ a < base + 8192 then Memory.unlisted a else s.mem.read a)
              ∧ ∀ at_ v, j.op = .program at_ v → memory.readWord at_ = (s.word at_ &&& v)
                  ∧ ∀ a, a ≠ at_ → a ≠ at_ + 1 → memory.read a = s.mem.read a))
      ∧ (s.tariff.prog.timer = some 0 → s.flash.fbusy = true →
          ∃ memory, goesOn (.flashWaitLimit left) j memory s.flash false
              [(.flashTimeout, 0, BitVec.ofNat 16 j.op.addr)]
            ∧ within memory))
    ∧ (∀ j, s.tariff.prog.job = some j →
        s.tariff.prog.waitsFbusy = true → s.flash.fbusy = true → s.start.phase ≠ .waitFbusy →
          ∃ t, exec (.fbusyDeasserted left) s = .next t ∧ t.driven = [] ∧ s.KeepsBut t [.tariff, .flash]
            ∧ t.tariff = { s.tariff with prog.waitsFbusy := false }
            ∧ t.flash = { fbusy := true, op := some j.op } ∧ within t.mem)
    ∧ (s.tariff.prog.job = none → s.flash.fbusy = true → s.start.phase ≠ .waitFbusy →
        ∃ t, exec (.fbusyDeasserted left) s = .next t ∧ t.driven = [] ∧ s.KeepsBut t [.flash]
          ∧ t.flash = { fbusy := false, op := none } ∧ within t.mem)
    ∧ (s.tariff.prog.job = none ∨ s.flash.fbusy = false →
        idles .flashOpEnd ∧ idles (.flashWaitLimit left))
    ∧ (s.tariff.prog.waitsFbusy = true → idles .flashOpEnd)
    ∧ (s.tariff.prog.timer ≠ some 0 → idles (.flashWaitLimit left))
    ∧ (s.flash.fbusy = false ∨ (s.tariff.prog.job ≠ none ∧ s.tariff.prog.waitsFbusy = false) →
        idles (.fbusyDeasserted left))

/-- A begun changeover (R84) goes on when the programmer is IDLE: the pending slot is marked ACTIVE, the slot in force
RETIRED, the pending slot is put in force, the cache is filled from it, and the changeover ends with BOOK_CHANGED,
taking an OPEN that waited. A failed fill leaves the cache empty and raises TARIFF_BAD. (That the void of a
TARIFF_BAD hands its close over before a period close that waits is the model's choice: log 36, `closeHanded`.) A
due daily check (R85) is a pass over the slot in force: it fills an empty cache and removes TARIFF_BAD, or raises
it, and then has a stale slot marked RETIRED. That each CHANGEOVER takes the next part, and none while the
programmer works, is log 21 (DEDUCED); that a check waits for a changeover is log 40, and that a row whose condition
does not hold does nothing is log 2 (the model's choices). -/
def Obligations.ChangeoversAndDailyChecks : Prop :=
  ∀ s : State,
    let T := s.tariff
    let idle := T.prog.job = none ∧ T.prog.jobs = []
    let cleared := s.fault.stop.filter (· != .tariffBad)
    let asks (tariff : TariffUnit) (j : FlashJob) :=
      ∃ t, exec .changeover s = .next t ∧ s.WroteOnly t [] ∧ s.KeepsBut t [.tariff, .flash]
        ∧ t.tariff = { tariff with prog := s.progAsked j } ∧ t.flash = s.flashAsked j
    let stale (old : Option BookSlot) (t : State) (tariff : TariffUnit) :=
      match old with
      | some x =>
        let j := s.marking x 0x07FF (.staleRetire x)
        t.tariff = { tariff with prog := s.progAsked j } ∧ t.flash = s.flashAsked j
      | none => t.tariff = tariff ∧ t.flash = s.flash
    (∀ p, idle → T.change = some .toActivate → T.pendingSlot = some p →
      asks { T with change := some .activating } (s.marking p 0x0FFF .changeActive))
    ∧ (∀ f, idle → T.change = some .toRetire → T.inForce = some f →
        asks { T with change := some .retiring } (s.marking f 0x07FF (.changeRetire f)))
    ∧ (idle → T.change = some .toRetire → T.inForce = none →
        ∃ t, exec .changeover s = .next t ∧ s.WroteOnly t [] ∧ s.KeepsBut t [.tariff]
          ∧ t.tariff = { T with
              inForce := T.pendingSlot, pendingSlot := none, stale := none, change := some .toFill })
    ∧ (∀ f, idle → T.change = some .toFill → T.inForce = some f →
        (∀ copy, s.validate f false = .passes copy →
          ∃ u, s.ComesTo .changeover u.openReleased ∧ s.Effect u none [] [.tariff, .fault] []
            ∧ u.tariff = { T with cache := some copy, due := false, change := none }
            ∧ u.fault = { s.fault with stop := cleared, sources := s.fault.sources.raised .book 1 })
        ∧ ∀ reason, s.validate f false = .fails reason →
            ∃ u, s.ComesTo .changeover u.openReleased
              ∧ s.StopRaised u .tariffBad .tariffBad (BitVec.ofNat 16 reason) (·.raised .book 1) [.tariff]
              ∧ u.tariff = { T with
                  cache := none, due := false, change := none, engine := u.tariff.engine })
    ∧ (¬ idle ∨ T.change = none ∨ T.change = some .activating ∨ T.change = some .retiring →
        ∃ t, exec .changeover s = .next t ∧ s.WroteOnly t [] ∧ s.KeepsBut t [])
    ∧ (T.checkDue = true → T.change = none → idle →
        (T.inForce = none →
          ∃ t, exec .dailyCheck s = .next t ∧ s.WroteOnly t [] ∧ s.KeepsBut t [.tariff, .flash]
            ∧ stale T.stale t { T with checkDue := false })
        ∧ ∀ f, T.inForce = some f →
            (∀ copy, s.validate f false = .passes copy →
              ∃ t, exec .dailyCheck s = .next t ∧ s.Effect t none [] [.tariff, .fault, .flash] []
                ∧ t.fault = { s.fault with stop := cleared }
                ∧ stale T.stale t { T with checkDue := false, cache := some (T.cache.getD copy) })
            ∧ ∀ reason, s.validate f false = .fails reason →
                ∃ t, exec .dailyCheck s = .next t
                  ∧ s.StopRaised t .tariffBad .tariffBad (BitVec.ofNat 16 reason) (·) [.tariff, .flash]
                  ∧ stale T.stale t { T with checkDue := false, engine := t.tariff.engine })
    ∧ (T.checkDue = false ∨ T.change ≠ none ∨ ¬ idle →
        ∃ t, exec .dailyCheck s = .next t ∧ s.WroteOnly t [] ∧ s.KeepsBut t [])

/-! ## Validation -/

/-- A validation pass (R72) stops at the first check that fails, and tells its reason: LENGTH, CRC, HEADER, DIRECTORY
(also for a section of the machine's zone that runs into the check word, by its counts as read: log 20),
ZONE_ABSENT, the reason of the first faulty word of the section, in word order (6 to 15), SAME_ID. A book passes
exactly when it meets the header's and the directory's checks, its section for the machine's zone is the words of a
sound section that end before the check word, and, as a pending book, its id is not that of the slot in force; the
copy is that section with the book's id and effective minute (R70 to R73). -/
def Obligations.ValidationStopsAtTheFirstFault : Prop :=
  ∀ (s : State) (slot : BookSlot) (pending : Bool),
    let r (k : Nat) : Word := s.word (s.bookAddr slot + 2 * k)
    let n := (r 4).toNat
    let zones := (r 5).toNat
    let id (j : Nat) := hiByte (r (6 + j))
    let place (j : Nat) := 4 * (loByte (r (6 + j))).toNat
    let length := 64 ≤ n ∧ n ≤ 4096
    let checked := r (n - 1) = crc (0xFFFF :: s.words (s.bookAddr slot + 2) (n - 2))
    let header := r 1 ≠ 0 ∧ r 1 ≠ 0xFFFF ∧ s.dword (s.bookAddr slot + 4) ≠ 0xFFFFFFFF
    let directory := 1 ≤ zones ∧ zones ≤ 8
      ∧ ∀ j < zones, id j ≠ 0 ∧ 16 ≤ place j ∧ ∀ i < j, id i ≠ id j
    let opening := length ∧ checked ∧ header ∧ directory
    let section_ (z : ZoneSection) := z.Sound ∧ ∃ j < zones, id j = s.cfg.zone
      ∧ place j + z.words.length < n
      ∧ s.words (s.bookAddr slot + 2 * place j) z.words.length = z.words
    let same := pending = true ∧ ∃ f, s.tariff.inForce = some f ∧ r 1 = s.word (s.bookAddr f + 2)
    (¬ length → s.validate slot pending = .fails 1)
    ∧ (length → ¬ checked → s.validate slot pending = .fails 2)
    ∧ (length → checked → ¬ header → s.validate slot pending = .fails 3)
    ∧ (length → checked → header → ¬ directory → s.validate slot pending = .fails 4)
    ∧ (opening → (∀ j < zones, id j ≠ s.cfg.zone) → s.validate slot pending = .fails 5)
    ∧ (∀ j < zones, opening → id j = s.cfg.zone →
        let o := place j
        let runsIn := n - 1 < dayTypePlace r o (r (o + 3)).toNat
        (runsIn → s.validate slot pending = .fails 4)
        ∧ ∀ k reason : Nat, ¬ runsIn → (sectionChecks r o)[k]? = some (reason, true) →
            (∀ i : Nat, i < k → ∀ x : Nat × Bool, (sectionChecks r o)[i]? = some x → x.2 = false) →
              s.validate slot pending = .fails reason)
    ∧ (∀ z, opening → section_ z →
        s.validate slot pending =
          if same then .fails 16
          else .passes { id := r 1, effective := s.dword (s.bookAddr slot + 4), zone := z })
    ∧ ∀ copy, s.validate slot pending = .passes copy →
        opening ∧ section_ copy.zone ∧ ¬ same ∧ copy.id = r 1
          ∧ copy.effective = s.dword (s.bookAddr slot + 4)

/-! ## Resets and start-up -/

/-- POWER_ON and HOST_RESET (R178): every unit is at its reset values in STARTING (R2, R42, R44, R48, R69, R92,
R94, R108, R121, R122, R131, R136, R137, R148, R149, R150, R166, R174), and HOST_RESET keeps the machine minute and
the time-set flag. No rule gives these values, which are log 9's, the model's choice: every `answers` (the words of
the cells to be written next, the day of the commit permit step and the vector of the latest take); in `given` the
discard time, the debounce interval, the flash wait limit, the idle limit, the probe limit and the machine zone
(the rest of `given` is R122's); the session slot A; `granted` none; no image waiting in `ready`; the reply's data
none; and the settle timers, of the lines and of the settle limit, stopped. Flash and SRAM are untouched but for
the word writes of the work that the reset cuts short (R47), of which some first ones have reached memory. The
pins' raw levels go on as they were, and so does the flash device; of work that an event from outside began, the
event itself has happened: the flash has done what ended, and an edge on MARK has advanced the minute (log 12,
DEDUCED). -/
def Obligations.ResetsLeaveResetValues : Prop :=
  ∀ (s : State) (cut : Cut),
    let y : State :=
      match cut with
      | .during .flashOpEnd _ =>
        match s.tariff.prog.job with
        | some j =>
          if s.tariff.prog.waitsFbusy = false ∧ s.flash.fbusy = true then
            { s with mem := j.op.done s.mem, flash := { fbusy := false, op := none } }
          else s
        | none => s
      | .during (.flashWaitLimit left) _ =>
        if s.tariff.prog.job ≠ none ∧ s.tariff.prog.timer = some 0 ∧ s.flash.fbusy = true then s.flashLeft left else s
      | .during (.fbusyDeasserted left) _ =>
        if s.flash.fbusy = true ∧ (s.tariff.prog.job = none ∨ s.tariff.prog.waitsFbusy = true) then
          { s.flashLeft left with flash := { fbusy := false, op := none } }
        else s
      | .during .minuteMark _ =>
        if s.time.timeSet = true ∧ s.time.minute.toNat < 0xFFFFFFFE then
          { s with time.minute := s.time.minute + 1 }
        else s
      | _ => s
    let eight : Eight Word := #v[0, 0, 0, 0, 0, 0, 0, 0]
    let eightTotals : Eight DWord := #v[0, 0, 0, 0, 0, 0, 0, 0]
    let source : SourceRegs := { pend := false, serving := false, enabled := false, notice := 0 }
    let line (raw : Bool) : LineRegs := { raw := raw, level := none, timer := none }
    let given : CfgRegs :=
      { discardMs := 0, debounceMs := 0, flashWaitMs := 0, denoms := eight, escrowCap := 0, capacity := 0
        nearPercent := 0, authTime := 0, idleLimit := 0, probeLimit := 0, zone := 0 }
    let answers : Word := 0
    let leaves (minute : DWord) (timeSet : Bool) (ws : List (Nat × Word)) : State :=
      { path :=
          { mode := .starting, map := none, owed := [], ready := [], slot := .empty
            arb := { count := 0, pointer := .groupWriter, granted := none }
            reply := { term := .retry, data := .none } }
        cfg := given
        sale :=
          { state := .idle, number := 0, escrow := eight, late := eight, lateTotal := 0, coinPence := 0
            cardPence := 0, permit := none, verdict := .none
            price := { expiry := 0, charge := 0, overpay := 0, flags := 0, bandInfo := 0, bookId := 0, pricedAt := 0 }
            idle := 0, voidReason := .none, saleCmd := answers, coinIn := answers, cardIn := answers
            refundDue := answers, commitFlags := answers, inhibit := answers, waitOpen := false, waitCommit := false
            held := [], recordStep := false, permitPart := none }
        tariff :=
          { inForce := none, stale := none, pendingSlot := none, due := false, retry := false, change := none
            session := { state := .closed, slot := .a, keyLost := false, waits := [] }
            prog := { job := none, waitsFbusy := false, timer := none, jobs := [] }
            cache := none, hand := none, bookCmd := answers, checkDue := false
            engine := { run := none, overtaken := .no } }
        permit :=
          { kept := 0, search := none, dying := false, permitReq := answers
            lock := { holder := none, waiters := [] }, commitDay := answers, head := 0, tail := 0, handed := 0
            amend := .idle, recordCount := 0, lastSeq := 0, headerGood := false, amendStatus := answers, scrubCursor := 0 }
        cash :=
          { tally := { counts := eight, coins := 0, value := 0 }, nearLatch := false
            period :=
              { number := 0, opened := 0, closed := 0, closeKind := 0, committed := 0, voided := 0, permitSales := 0
                cardPence := 0, chargePence := 0, overpayPence := 0, vaulted := eight, stray := eight
                refunded := eightTotals, firstSeq := 0, lastSeq := 0, intrusions := 0, lateCoins := 0
                spares := #v[0, 0, 0, 0, 0, 0, 0, 0, 0] }
            nextSeq := 0, exportMark := 0, reserved := false, exportLow := 0, pnext := 0, pexport := 0
            compartment := .sealed, intrusion := false, authCount := 0, closeOwed := false, close := none
            waiting := [], latch := .live, collectCmd := answers }
        fault :=
          { routes := [], list := [], seq := 0, view := [0, 0, 0, 0, 0, 0, 0, 0], stop := []
            sources := { sale := source, fault := source, cash := source, book := source, roll := source }
            vectorBase := 0, lastTake := answers, serviceCmd := answers, faultCmd := answers, reportCmd := answers
            attnEos := answers, attnEnable := answers }
        time := { minute := minute, timeSet := timeSet, low := 0, timeHi := answers }
        lines := { door := line s.lines.door.raw, box := line s.lines.box.raw, key := line s.lines.key.raw
                   settleLimit := none }
        start := { phase := .held, fbusyLimit := none }
        flash := y.flash, mem := y.mem.writeAll ws, driven := [], pending := s.pending }
    ∃ ws,
      exec (.powerOn cut) s = .next (leaves 0 false ws)
      ∧ exec (.hostReset cut) s = .next (leaves y.time.minute y.time.timeSet ws)
      ∧ (cut = .nothing → ws = [])
      ∧ ∀ w n c, cut = .during w n → s.Does w c →
          ∃ t, exec c s = .next t ∧ ws = t.driven.reverse.take n

/-- Step 1 of start-up (R179): a held reset ends with START_UP, which waits for FBUSY, for 1,000 ms at most; the record
is then read. A bad record puts the part in TRANSPARENT with the time unset (R46, R174). A good one is handed out:
the map, the timing and other values, the effective routes with fixed and replaced entries (R152), the vector base
with its low four bits 0, the images of ROUTES, of attention and of the stop set are to be written (R152, R166;
STOP_SET: log 37), and every line begins to settle with the limit of R182; the procedure goes on to step 2 (R87,
`State.fromConfig`; slot A before slot B, and of two VALID slots the last that passes, is the model's choice: log
25; so is the order in which groups become ready: log 46), and to its first wait within the same step (log 24,
DEDUCED). That the record is read at the limit although FBUSY is asserted is log 30, and that a row whose condition
does not hold does nothing is log 2 (the model's choices). -/
def Obligations.StartUpReadsTheConfiguration : Prop :=
  ∀ (c : Instr) (s : State) (left : List Word),
    let alone := s.flash.fbusy = true ∧ (s.tariff.prog.job = none ∨ s.tariff.prog.waitsFbusy = true)
    let begins :=
      (c = .startUp ∧ s.start.phase = .held ∧ s.flash.fbusy = false)
        ∨ (c = .fbusyWaitLimit ∧ s.start.phase = .waitFbusy ∧ s.start.fbusyLimit = some 0)
        ∨ (c = .fbusyDeasserted left ∧ s.start.phase = .waitFbusy ∧ alone)
    let y := if c = .fbusyDeasserted left then s.begin.fbusyFree left else s.begin
    let w (k : Nat) : Word := y.word (0x7FF000 + 2 * k)
    let d (k : Nat) : Nat := (w k).toNat + 65536 * (w (k + 1)).toNat
    let m : WindowMap := { sale := d 1, control := d 3, cash := d 5, roll := d 7, book := d 9 }
    let within (k lo hi : Nat) := lo ≤ (w k).toNat ∧ (w k).toNat ≤ hi
    let good := w 0 = 0x4842 ∧ w 127 = crc (y.words 0x7FF000 127) ∧ m.placed = true
      ∧ within 19 1 60 ∧ within 20 100 8000 ∧ within 21 50 99 ∧ within 22 1 15 ∧ within 23 1 15
      ∧ within 24 5 255 ∧ within 25 1 255 ∧ within 26 1 255 ∧ within 27 1 8 ∧ loByte (w 28) ≠ 0
    let route (k : Nat) : RouteEntry :=
      let byte := loByte (w (29 + k))
      { route :=
          if k = 1 ∨ k = 7 ∨ k = 10 ∨ k = 11 ∨ k = 12 then .stop
          else if byte = 0 then .log
          else if byte = 2 ∧ (k = 4 ∨ k = 16) then .stop else .attend
        delegate := decide (hiByte (w (29 + k)) ≠ 0) }
    let begun (r : LineRegs) : LineRegs := { r with timer := some (w 24).toNat }
    ((c = .startUp ∧ s.start.phase ≠ .held)
        ∨ (c = .fbusyWaitLimit ∧ ¬ (s.start.phase = .waitFbusy ∧ s.start.fbusyLimit = some 0)) →
      ∃ t, exec c s = .next t ∧ s.WroteOnly t [] ∧ s.KeepsBut t [])
    ∧ (c = .startUp → s.start.phase = .held → s.flash.fbusy = true →
        ∃ t, exec c s = .next t ∧ s.WroteOnly t [] ∧ s.KeepsBut t [.start]
          ∧ t.start = { phase := .waitFbusy, fbusyLimit := some 1000 })
    ∧ (begins → ¬ good →
        ∃ t, exec c s = .next t ∧ y.WroteOnly t [] ∧ y.KeepsBut t [.mode, .time, .start]
          ∧ t.path.mode = .transparent ∧ t.time = { s.time with timeSet := false }
          ∧ t.start = { phase := .done, fbusyLimit := none })
    ∧ (begins → good → s.path.mode = .starting →
        ∃ t, exec c s = .next t ∧ t.path.mode = .starting ∧ t.path.map = some m ∧ t.time = s.time
          ∧ t.cfg =
              { discardMs := (w 25).toNat, debounceMs := (w 24).toNat, flashWaitMs := (w 26).toNat
                denoms := #v[w 11, w 12, w 13, w 14, w 15, w 16, w 17, w 18]
                escrowCap := (w 19).toNat, capacity := (w 20).toNat, nearPercent := (w 21).toNat
                authTime := (w 23).toNat, idleLimit := (w 22).toNat, probeLimit := (w 27).toNat
                zone := loByte (w 28) }
          ∧ t.fault.routes = (List.range 16).map (fun k => route (k + 1))
          ∧ t.fault.vectorBase = (w 29 &&& 0xFFF0)
          ∧ t.lines = { door := begun s.lines.door, box := begun s.lines.box, key := begun s.lines.key
                        settleLimit := some 1000 }
          ∧ t.start.fbusyLimit = none
          ∧ t.start.phase ≠ .held ∧ t.start.phase ≠ .waitFbusy ∧ t.start.phase ≠ .done
          ∧ let images : List ReadyItem :=
              [.image .routes, .image (.notice .sale), .image (.notice .fault), .image (.notice .cash),
               .image (.notice .book), .image (.notice .roll), .image .peek, .image .take, .image .stopSet]
            let x : State := { y with
              path.map := some m
              path.ready := y.path.ready ++ images.filter fun i => decide (i ∉ y.path.ready)
              cfg := t.cfg
              fault.routes := (List.range 16).map (fun k => route (k + 1))
              fault.vectorBase := w 29 &&& 0xFFF0
              fault.lastTake := (w 29 &&& 0xFFF0) + 14
              lines := t.lines
              start.fbusyLimit := none }
            s.ComesTo c (x.fromConfig [.a, .b]))

/-- Start-up step 3 (R118) and step 9 (R119), each upon what its row has driven before. The roll header passes and
is loaded; a header with its check word alone bad is rebuilt when a header write was cut short, the count being
that of the 512 bucket headers; any other is BAD, with ROLL_SEEK raised (detail FFFFh) and ROLL_DOWN added whatever
the route. Head and tail are loaded, a cell out of range being rewritten, the head first, and an entry that was
finished before the reset is passed over with its head written. Any other entry at the head is applied again in
restart mode (R119): a bucket header whose check word alone is bad is rewritten as the walk meets it; an ADD whose
target is readable, LIVE and equal, a REPLACE whose target is equal (read as the rule's own case says: log 35) and
a REVOKE whose status word alone is unwritten are completed with APPLIED, and so is a DELETE without a target; then
the buckets walked, those that an ADD looks at past its walk among them (log 51, the model's choice), and the
record count are counted again. That the head is rewritten before the tail, and the buckets in chain order, is log
57, the model's choice. -/
def Obligations.StartUpChecksTheRollAndItsQueue : Prop :=
  ∀ s : State, s.path.map.isSome = true →
    let w (k : Nat) : Word := s.cellWord .roll k
    let h := (w 69648).toNat
    let l := (w 69649).toNat
    let entry (k : Nat) : Nat := s.at .roll (69664 + 24 * k)
    let final (k : Nat) : Prop := 16 ≤ (s.word (entry k + 6)).toNat ∧ (s.word (entry k + 6)).toNat ≤ 22
    let shape := w 0 = 0x4A52 ∧ w 1 = 512
    let good := shape ∧ w 15 = crc (s.words (s.at .roll 0) 15)
    let cut := shape ∧ h < 32 ∧ l < 32 ∧ h ≠ l ∧ final h
    let count := sum16 (((List.range 512).map fun b => (w (16 + 136 * b + 2)).toNat).sum)
    let sequence := s.dword (entry h + 2)
    let t := s.checkRollHeader
    let head : BitVec 5 := BitVec.ofNat 5 (if h < 32 then h else 0)
    let tail : BitVec 5 := if l < 32 then BitVec.ofNat 5 l else head
    let loaded := { s.permit with head := head, tail := tail, handed := tail }
    let mended := (if h < 32 then [] else [(s.at .roll 69648, (0 : Word))])
      ++ if l < 32 then [] else [(s.at .roll 69649, BitVec.ofNat 16 tail.toNat)]
    let finished := final head.toNat ∧ s.dword (entry head.toNat + 2) = s.permit.lastSeq
      ∧ s.permit.headerGood = true
    (good → s.WroteMore t [] ∧ s.KeepsBut t [.permit]
      ∧ t.permit = { s.permit with recordCount := w 3, lastSeq := s.cellDWord .roll 4, headerGood := true })
    ∧ (¬ good → cut →
        s.WroteMore t (runWrites (s.at .roll 0) (rollHeader (w 2) count sequence)) ∧ s.KeepsBut t [.permit]
          ∧ t.permit = { s.permit with recordCount := count, lastSeq := sequence, headerGood := true })
    ∧ (¬ good → ¬ cut →
        s.EffectMore t [] [.permit, .fault] []
          ∧ t.permit = { s.permit with headerGood := false }
          ∧ s.RecordedAll t [(.rollSeek, 0, 0xFFFF)]
          ∧ t.fault = { s.fault with
              list := t.fault.list, seq := t.fault.seq, stop := withCondition s.fault.stop .rollDown
              sources := s.attended .rollSeek 3 false })
    ∧ (head = tail → s.WroteMore s.resumeQueue mended ∧ s.KeepsBut s.resumeQueue [.permit]
        ∧ s.resumeQueue.permit = loaded)
    ∧ (head ≠ tail → finished →
        s.WroteMore s.resumeQueue (mended ++ [(s.at .roll 69648, BitVec.ofNat 16 (head + 1).toNat)])
          ∧ s.KeepsBut s.resumeQueue [.permit]
          ∧ s.resumeQueue.permit = { loaded with head := head + 1 })
    ∧ (head ≠ tail → ¬ finished →
        let a := entry head.toNat
        let y := (s.wrote mended loaded).put (a + 6) 23
        let op := (s.word a).toNat
        let sequence := s.dword (a + 2)
        let image := s.words (a + 8) 16
        let number := recNumber image
        let home : BitVec 9 := BitVec.ofNat 9 (number.toNat % 512)
        let ends (x : State) (result : Word) :=
          s.resumeQueue = ((x.giveResult head result).noteSeq sequence).advanceHead head
        let counted (x : State) (walked : List (BitVec 9)) (result : Word) := ends (x.recounted walked) result
        let tested := s.permit.headerGood = true ∧ (op = 1 ∨ op = 2 → badImage image = false)
          ∧ (op = 3 ∨ op = 4 → badNumber image = false)
        let walk := y.walkFor true number
        let t := walk.state
        (op < 1 ∨ 5 < op → ends y 21)
        ∧ (1 ≤ op → op ≤ 4 → s.permit.headerGood = false → ends y 22)
        ∧ (1 ≤ op → op ≤ 4 → s.permit.headerGood = true → ¬ tested → ends y 20)
        ∧ (op = 5 → ends (y.clearRoll sequence) 16)
        ∧ (1 ≤ op → op ≤ 4 → tested →
            (∀ b, walk.finish = .failed b → counted (t.raise .rollSeek (BitVec.ofNat 16 b.toNat)) walk.seen 22)
            ∧ (walk.finish = .absent → op = 2 ∨ op = 3 → counted t walk.seen 18)
            ∧ (walk.finish = .absent → op = 4 → counted t walk.seen 16)
            ∧ (walk.finish = .absent → op = 1 →
                let chain :=
                  if (t.freePlace walk.seen).isSome then walk
                  else walk.extend true (s.cfg.probeLimit - walk.seen.length)
                    (home + BitVec.ofNat 9 walk.seen.length)
                let c := chain.state
                (∀ b, chain.finish = .failed b →
                  counted (c.raise .rollSeek (BitVec.ofNat 16 b.toNat)) chain.seen 22)
                ∧ (chain.finish = .absent → c.freePlace chain.seen = none →
                    counted (c.raise .rollFull (BitVec.ofNat 16 home.toNat)) chain.seen 19)
                ∧ ∀ b k, chain.finish = .absent → c.freePlace chain.seen = some (b, k) →
                    let flagged := (chain.seen.takeWhile (· != b)).foldl
                      (fun v d =>
                        if v.overflowOf d = true then v
                        else v.wrote (v.headerWrites d (v.occupied d) true)
                          { v.permit with recordCount := v.countWith v.permit.recordCount d (v.occupied d) }) c
                    let placed := flagged.wrote (flagged.recordWrites b k (newRecord image 0 0)) flagged.permit
                    counted (placed.rewritten b) chain.seen 16)
            ∧ ∀ b k, walk.finish = .target b k →
                let old := t.slotWords b k
                let at_ := t.slotAddr b k
                (op = 1 →
                  let there := EqualFields image old ∧ readable old = true ∧ recStatus old = 1
                  (there → counted t walk.seen 16) ∧ (¬ there → counted t walk.seen 17))
                ∧ (op = 2 →
                    (EqualFields image old → counted t walk.seen 16)
                    ∧ (¬ EqualFields image old →
                        let used := BitVec.ofNat 16 (min (recUsed old) (recAllowance image))
                        let v := t.wrote (t.recordWrites b k (newRecord image used (recUsedOn old))) t.permit
                        counted (if recStatus old = 1 ∨ recStatus old = 2 then v else v.rewritten b) walk.seen 16))
                ∧ (op = 3 →
                    let body := old.take 2 ++ [mkWord 2 (recCategory old)] ++ (old.drop 3).take 12
                    (readable old = true →
                      counted ((t.put (at_ + 30) (crc body)).put (at_ + 4) (mkWord 2 (recCategory old)))
                        walk.seen 16)
                    ∧ (readable old = false → wordOf old 15 = crc body →
                        counted (t.put (at_ + 4) (mkWord 2 (recCategory old))) walk.seen 16)
                    ∧ (readable old = false → wordOf old 15 ≠ crc body →
                        counted (t.raise .recordCrc (BitVec.ofNat 16 (8 * b.toNat + k))) walk.seen 22))
                ∧ (op = 4 → counted ((t.put (at_ + 4) 0x0300).rewritten b) walk.seen 16)))

/-- Step 4 of start-up (R180): an intent that is not ARMED is left NONE; an armed one has every step of its close
that is not done yet written again from its images alone, in order, and RECOVERY raised with the kind and the step
done read. A step done above the kind's last is taken as 0; a kind that is none writes NONE alone. That the low
byte of a step-done word above 255 is recorded, and that SALE_RESP goes before TENDER_RESP in step 7, are the
model's: log 27 (DEDUCED) and log 45 (DESIGN CHOICE); a bucket or slot beyond its range, and the ring slot of
period 0, are log 32's. The words follow those that the row has driven before, as those of a roll header rebuilt in
step 3. -/
def Obligations.StartUpReplaysTheIntent : Prop :=
  ∀ s : State, s.path.map.isSome = true →
    let ws := s.words (s.at .cash 32) 128
    let armed := wordOf ws 0 = 1
    let kind := (wordOf ws 4).toNat
    let read := (wordOf ws 1).toNat
    let last := if kind = 3 then 4 else 6
    let n := if last < read then 0 else read
    let t := s.replayIntent
    let none_ := [(s.at .cash 32, (0 : Word))]
    (wordOf ws 0 = 0 → t = s)
    ∧ (wordOf ws 0 ≠ 0 → ¬ armed → s.WroteMore t none_ ∧ s.KeepsBut t [])
    ∧ (armed → kind ≠ 1 → kind ≠ 2 → kind ≠ 3 →
        s.EffectMore t [] [.fault] none_ ∧ s.Recovered t [0x800])
    ∧ (armed → kind = 1 ∨ kind = 2 ∨ kind = 3 →
        s.EffectMore t [] [.fault]
            (if n = last then none_ else s.replayed ws ((List.range last).filter fun k => n ≤ k))
          ∧ s.Recovered t [BitVec.ofNat 16 (256 * kind + read % 256)])

/-- Steps 5 and 6 of start-up (R181), from the sale unit's reset values: the cash unit's records are reloaded and
checked, the sale cells are loaded, and SALE_STATE decides. IDLE, CLOSED and VOID are taken as they are; OPEN, with
the next sequence as its number, is set up from the sale record and voided with reason RESTART; with another number
the record is left as CLEAR leaves it; any other state is settled by the sale's journal entry, or taken as OPEN.
The reservation is the RESTART void's alone. The order of the RECOVERY records is log 27 (DEDUCED). That 0400h is
recorded once the void has begun and after SALE_VOIDED is the model's (log 45, DESIGN CHOICE), and so are the void
reason of a settled context, its cell's (log 43), the fields that no rule names (log 26), an entry of no kind (log
32), that the void's close goes before a period close (log 36, `closeHanded`), the order of the period repair's
writes (log 52), how a void reason outside the codes (log 58) and a permit's category or discount cell above 00FFh
(log 59) are read, and that JRESERVED is rewritten after SALE_STATE and before a RESTART void's intent (log 54).
The words follow those that the row has driven before, as those of a replay in step 4. -/
def Obligations.StartUpRecoversTheSale : Prop :=
  ∀ s : State, (∃ m, s.path.map = some m ∧ m.placed = true) → s.sale = SaleUnit.reset →
    s.cash.close = none → s.cash.waiting = [] →
    let r := s.reloaded
    let y : State := { s with mem := s.mem.writeAll r.writes }
    let cell (k : Nat) : Word := y.cellWord .sale k
    let dcell (k : Nat) : DWord := y.cellDWord .sale k
    let t := s.recoverSale
    let loaded : SaleUnit :=
      { SaleUnit.reset with
        number := dcell 2, saleCmd := cell 0, coinIn := cell 4, cardIn := cell 5, refundDue := cell 17
        commitFlags := cell 25, inhibit := cell 18 }
    let reason (k : Nat) : VoidReason :=
      match k with
      | 1 => .abandoned
      | 2 => .idleTimeout
      | 3 => .doorOpened
      | 4 => .stopped
      | 5 => .restart
      | _ => .none
    let state := (cell 1).toNat
    let entry := y.words (y.at .cash (1248 + 24 * ((dcell 2).toNat % 512))) 24
    let whole := dwordOf entry 0 = dcell 2 ∧ wordOf entry 23 = crc (entry.take 23)
    let kind := (wordOf entry 2).toNat
    let free := state ≠ 0 ∧ state ≠ 1 ∧ state ≠ 4 ∧ state ≠ 5
    let asOpen := state = 1 ∨ (free ∧ ¬ (whole ∧ (kind = 1 ∨ kind = 2)))
    let reserving (b : Bool) : List (Nat × Word) :=
      let w : Word := if b then 1 else 0
      if y.cellWord .cash 16 = w then [] else [(y.at .cash 16, w)]
    let told (ds : List Word) (q : Sources) : Sources :=
      ds.foldl (fun q _ => ({ s with fault.sources := q } : State).attended .recovery 4 false) q
    let before := (recoveries r.details).foldl s.recordOne (s.fault.list, s.fault.seq)
    let raised (sale : SaleUnit) (details : List Word) : FaultUnit :=
      let after := (recoveries details).foldl ({ s with sale := sale } : State).recordOne before
      { s.fault with list := after.1, seq := after.2, sources := told (r.details ++ details) s.fault.sources }
    let is (sale : SaleUnit) (ws : List (Nat × Word)) (details : List Word) :=
      s.EffectMore t [] ([.sale, .permit, .cash] ++ if r.details ++ details = [] then [] else [.fault])
          (r.writes ++ ws)
        ∧ t.sale = sale ∧ t.permit = { s.permit with permitReq := cell 14 }
        ∧ t.cash = { r.cash with reserved := false }
        ∧ t.fault = raised sale details
    let ended (x : SaleState) : SaleUnit :=
      { loaded with state := x, voidReason := reason (cell 22).toNat }
    (state = 0 → is loaded (reserving false) [])
    ∧ (state = 4 → is (ended .closed) (reserving false) [])
    ∧ (state = 5 → is (ended .void) (reserving false) [])
    ∧ (free → whole → kind = 1 → is (ended .closed) ((y.at .sale 1, 4) :: reserving false) [0x700])
    ∧ (free → whole → kind = 2 → is (ended .void) ((y.at .sale 1, 5) :: reserving false) [0x700])
    ∧ (asOpen → dcell 2 ≠ r.cash.nextSeq →
        s.EffectMore t [.saleResp, .tenderResp, .price, .permitResp] [.sale, .permit, .cash, .fault]
            (r.writes ++ reserving false)
          ∧ t.sale = { SaleUnit.reset with number := r.cash.nextSeq - 1, saleCmd := 16 }
          ∧ t.permit = { s.permit with permitReq := 0 }
          ∧ t.cash = { r.cash with reserved := false }
          ∧ t.fault = raised SaleUnit.reset [0x900])
    ∧ (asOpen → dcell 2 = r.cash.nextSeq →
        let escrow : Eight Word :=
          #v[cell 26, cell 27, cell 28, cell 29, cell 30, cell 31, y.cellWord .cash 24, y.cellWord .cash 25]
        let coins := penceOf escrow s.cfg.denoms
        let permit : Option PermitInUse :=
          if cell 14 = 16 then
            some { number := dcell 12, category := loByte (cell 16), discount := loByte (cell 15)
                   bucket := 0, slot := 0 }
          else none
        let opened : SaleUnit :=
          { loaded with
            state := .opened, escrow := escrow, lateTotal := cell 24
            coinPence := sum16 coins, cardPence := BitVec.ofNat 16 ((cell 6).toNat - coins)
            price := { charge := cell 7, expiry := dcell 8, flags := cell 10, bandInfo := cell 11
                       bookId := cell 19, pricedAt := dcell 20, overpay := cell 23 }
            permit := permit, verdict := if permit.isSome then .valid else .none }
        let v : State := { y with sale := opened, cash := { r.cash with reserved := true } }
        let u := v.voidedSale .restart opened.saleCmd
        let after := ({ v with sale := u } : State).recordOne before (.recovery, 0, 0x400)
        s.EffectMore t [.saleResp, .tenderResp]
            [.sale, .permit, .cash, .engine, .fault] (r.writes ++ reserving true ++ v.handWrites u)
          ∧ ({ v with permit.permitReq := cell 14 } : State).VoidBegun t u
          ∧ t.fault = { s.fault with
              list := after.1, seq := after.2
              sources := ({ s with sale := u, fault.sources := (told r.details s.fault.sources).raised .sale 1 } : State).attended
                .recovery 4 false })

/-- Steps 7 and 8 of start-up (R182): with no sale OPEN, each condition whose cause is present joins the stop set,
in number order, without a record, and the compartment state is taken from its mirror and the lines by R182's
table, with the authorisation count 0: DOOR_OPEN may be added, a period close fall due (R146, `duesWaiting`), or
INTRUSION be raised, START counting in the open period; that it counts in the period that a due close then closes
is log 44. The mirrors are written, before that count (log 50): the model's choices. The words follow those that
the row has driven before, as those of a start-up that goes on from step 4 or from the end of a close. -/
def Obligations.StartUpDerivesStopsAndCompartment : Prop :=
  ∀ s : State, s.path.map.isSome = true → s.sale.state ≠ .opened →
    let t := s.rebuildStops.deriveCompartment
    let mirror := (s.cellWord .cash 19).toNat
    let flag := decide (s.cellWord .cash 20 ≠ 0)
    let door := decide (s.lines.door.level = some true)
    let box := decide (s.lines.box.level = some true)
    let causes : List (Condition × Bool) :=
      [(.timeUnset, !s.time.timeSet), (.tariffBad, s.tariff.cache.isNone),
       (.journalFull, decide (s.freeSlots = 0)),
       (.boxFull, decide (s.cfg.capacity ≤ s.cash.tally.coins.toNat)), (.boxAbsent, !box),
       (.intrusion, flag), (.rollDown, !s.permit.headerGood)]
    let row : Compartment × Bool × Bool × Option Word :=
      match door, mirror, box with
      | true, 2, true => (.opened, true, false, none)
      | true, 2, false => (.boxOut, true, true, none)
      | true, 3, false | true, 4, false => (.boxOut, true, false, none)
      | true, 3, true | true, 4, true => (.refilled, true, false, none)
      | true, 6, _ => (.breached, false, false, none)
      | true, _, _ => (.breached, false, false, some 1)
      | false, 2, true => (.sealed, false, false, none)
      | false, 2, false => (.sealedEmpty, false, true, none)
      | false, 6, true => (.sealed, false, false, some 2)
      | false, 6, false => (.sealedEmpty, false, false, some 2)
      | false, _, true => (.sealed, false, false, none)
      | false, _, false => (.sealedEmpty, false, false, none)
    let due := row.2.2.1 || decide (s.cellWord .cash 22 ≠ 0)
    let starts := row.2.2.2 = some 1
    let p := s.cash.period
    let counted : PeriodRecord :=
      { p with intrusions := BitVec.ofNat 16 (min (p.intrusions.toNat + 1) 65535) }
    let cash : CashUnit :=
      { s.cash with
        compartment := row.1, intrusion := flag || decide (row.1 = .breached), authCount := 0
        closeOwed := s.cash.closeOwed || due
        waiting := if due then s.duesWaiting else s.cash.waiting
        period := if starts then counted else p }
    let stop := (causes.filter (·.2)).foldl (fun q x => withCondition q x.1) s.fault.stop
    let opened := if row.2.1 then withCondition stop .doorOpen else stop
    let faults := row.2.2.2.toList.map fun d => (FaultClass.intrusion, (0 : Byte), d)
    s.EffectMore t [] [.cash, .fault]
        ((if due then [(s.at .cash 22, 1)] else []) ++ s.mirrorWrites cash
          ++ if starts then [(s.at .cash 1236, counted.intrusions), (s.at .cash 1247, crc counted.body)]
             else [])
      ∧ t.cash = cash
      ∧ s.RecordedAll t faults
      ∧ t.fault = { s.fault with
          list := t.fault.list, seq := t.fault.seq
          stop := if faults ≠ [] ∧ (s.routeOf .intrusion).route = .stop then withCondition opened .intrusion
                  else opened
          sources := if faults = [] then s.fault.sources else s.attended .intrusion 4 false }
      ∧ .image .lines ∈ t.path.ready

/-- The end of start-up (R182, R183, R45): once the lines have settled, or at the limit, LINES is to be rewritten if its
value has changed (R149; log 49, the model's choice) and steps 7 and 8 are done; a due period close is formed and
waited for, or else the amendment queue is resumed (`State.fromLines`), in the same step up to the next wait (log
24, DEDUCED; its ready order: log 46, the model's choice); and once the pending set is empty the part is RUNNING,
the amendment engine taking further entries from then on. A row whose condition does not hold does nothing (log 2,
the model's choice). What carries the procedure from step 2 to step 7, steps 3 to 6 in this order, is
`State.fromBooks` (R118, R180, R181), which `Obligations.StartUpReadsTheConfiguration`,
`Obligations.FlashOperationsEndAndTheirUsersGoOn` and the ends of closes come to. -/
def Obligations.StartUpEndsInRunning : Prop :=
  ∀ (c : Instr) (s : State),
    let settled (x : LineRegs) : LineRegs :=
      if x.level = none then { raw := x.raw, level := some x.raw, timer := none } else x
    let all : LineMonitor :=
      { door := settled s.lines.door, box := settled s.lines.box, key := settled s.lines.key
        settleLimit := none }
    let comes (l : Line) := c = .lineSettled l ∧ s.path.map ≠ none ∧ (s.lines.get l).level = none
      ∧ (s.lines.get l).timer = some 0 ∧ ∀ k, k ≠ l → (s.lines.get k).level ≠ none
    (s.start.phase = .waitLines →
        (c = .lineSettleLimit ∧ s.lines.settleLimit = some 0) ∨ (∃ l, comes l) →
      s.ComesTo c (({ s.begin with lines := all } : State).linesIfMoved s.shownLevels).fromLines)
    ∧ (s.start.phase = .waitOwed → s.path.owed = [] →
        ∃ t, exec .pathRunning s = .next t ∧ s.WroteOnly t [] ∧ s.KeepsBut t [.mode, .start, .permit]
          ∧ t.path.mode = .running ∧ t.start = { s.start with phase := .done }
          ∧ t.permit = s.permit.kicked .running s.today)
    ∧ (¬ (s.start.phase = .waitOwed ∧ s.path.owed = []) →
        ∃ t, exec .pathRunning s = .next t ∧ s.WroteOnly t [] ∧ s.KeepsBut t [])
end

