-- ==== Sys2Proof/Laws/State.lean ====
section
/-! SUPPORT. One lemma for each field of the state and each plain update, true by rfl. -/

namespace Sys2Proof.Machine

@[simp] theorem State.begin_path (s : State) :
    (s.begin).path = s.path := rfl

@[simp] theorem State.begin_cfg (s : State) :
    (s.begin).cfg = s.cfg := rfl

@[simp] theorem State.begin_sale (s : State) :
    (s.begin).sale = s.sale := rfl

@[simp] theorem State.begin_tariff (s : State) :
    (s.begin).tariff = s.tariff := rfl

@[simp] theorem State.begin_permit (s : State) :
    (s.begin).permit = s.permit := rfl

@[simp] theorem State.begin_cash (s : State) :
    (s.begin).cash = s.cash := rfl

@[simp] theorem State.begin_fault (s : State) :
    (s.begin).fault = s.fault := rfl

@[simp] theorem State.begin_time (s : State) :
    (s.begin).time = s.time := rfl

@[simp] theorem State.begin_lines (s : State) :
    (s.begin).lines = s.lines := rfl

@[simp] theorem State.begin_start (s : State) :
    (s.begin).start = s.start := rfl

@[simp] theorem State.begin_flash (s : State) :
    (s.begin).flash = s.flash := rfl

@[simp] theorem State.begin_mem (s : State) :
    (s.begin).mem = s.mem := rfl

@[simp] theorem State.begin_pending (s : State) :
    (s.begin).pending = s.pending := rfl

@[simp] theorem State.withPending_path (s : State) (q : List Instr) :
    (s.withPending q).path = s.path := rfl

@[simp] theorem State.withPending_cfg (s : State) (q : List Instr) :
    (s.withPending q).cfg = s.cfg := rfl

@[simp] theorem State.withPending_sale (s : State) (q : List Instr) :
    (s.withPending q).sale = s.sale := rfl

@[simp] theorem State.withPending_tariff (s : State) (q : List Instr) :
    (s.withPending q).tariff = s.tariff := rfl

@[simp] theorem State.withPending_permit (s : State) (q : List Instr) :
    (s.withPending q).permit = s.permit := rfl

@[simp] theorem State.withPending_cash (s : State) (q : List Instr) :
    (s.withPending q).cash = s.cash := rfl

@[simp] theorem State.withPending_fault (s : State) (q : List Instr) :
    (s.withPending q).fault = s.fault := rfl

@[simp] theorem State.withPending_time (s : State) (q : List Instr) :
    (s.withPending q).time = s.time := rfl

@[simp] theorem State.withPending_lines (s : State) (q : List Instr) :
    (s.withPending q).lines = s.lines := rfl

@[simp] theorem State.withPending_start (s : State) (q : List Instr) :
    (s.withPending q).start = s.start := rfl

@[simp] theorem State.withPending_flash (s : State) (q : List Instr) :
    (s.withPending q).flash = s.flash := rfl

@[simp] theorem State.withPending_mem (s : State) (q : List Instr) :
    (s.withPending q).mem = s.mem := rfl

@[simp] theorem State.withPending_driven (s : State) (q : List Instr) :
    (s.withPending q).driven = s.driven := rfl

@[simp] theorem State.put_path (s : State) (a : Nat) (w : Word) :
    (s.put a w).path = s.path := rfl

@[simp] theorem State.put_cfg (s : State) (a : Nat) (w : Word) :
    (s.put a w).cfg = s.cfg := rfl

@[simp] theorem State.put_sale (s : State) (a : Nat) (w : Word) :
    (s.put a w).sale = s.sale := rfl

@[simp] theorem State.put_tariff (s : State) (a : Nat) (w : Word) :
    (s.put a w).tariff = s.tariff := rfl

@[simp] theorem State.put_permit (s : State) (a : Nat) (w : Word) :
    (s.put a w).permit = s.permit := rfl

@[simp] theorem State.put_cash (s : State) (a : Nat) (w : Word) :
    (s.put a w).cash = s.cash := rfl

@[simp] theorem State.put_fault (s : State) (a : Nat) (w : Word) :
    (s.put a w).fault = s.fault := rfl

@[simp] theorem State.put_time (s : State) (a : Nat) (w : Word) :
    (s.put a w).time = s.time := rfl

@[simp] theorem State.put_lines (s : State) (a : Nat) (w : Word) :
    (s.put a w).lines = s.lines := rfl

@[simp] theorem State.put_start (s : State) (a : Nat) (w : Word) :
    (s.put a w).start = s.start := rfl

@[simp] theorem State.put_flash (s : State) (a : Nat) (w : Word) :
    (s.put a w).flash = s.flash := rfl

@[simp] theorem State.put_pending (s : State) (a : Nat) (w : Word) :
    (s.put a w).pending = s.pending := rfl

@[simp] theorem State.putCell_path (s : State) (x : Window) (k : Nat) (w : Word) :
    (s.putCell x k w).path = s.path := rfl

@[simp] theorem State.putCell_cfg (s : State) (x : Window) (k : Nat) (w : Word) :
    (s.putCell x k w).cfg = s.cfg := rfl

@[simp] theorem State.putCell_sale (s : State) (x : Window) (k : Nat) (w : Word) :
    (s.putCell x k w).sale = s.sale := rfl

@[simp] theorem State.putCell_tariff (s : State) (x : Window) (k : Nat) (w : Word) :
    (s.putCell x k w).tariff = s.tariff := rfl

@[simp] theorem State.putCell_permit (s : State) (x : Window) (k : Nat) (w : Word) :
    (s.putCell x k w).permit = s.permit := rfl

@[simp] theorem State.putCell_cash (s : State) (x : Window) (k : Nat) (w : Word) :
    (s.putCell x k w).cash = s.cash := rfl

@[simp] theorem State.putCell_fault (s : State) (x : Window) (k : Nat) (w : Word) :
    (s.putCell x k w).fault = s.fault := rfl

@[simp] theorem State.putCell_time (s : State) (x : Window) (k : Nat) (w : Word) :
    (s.putCell x k w).time = s.time := rfl

@[simp] theorem State.putCell_lines (s : State) (x : Window) (k : Nat) (w : Word) :
    (s.putCell x k w).lines = s.lines := rfl

@[simp] theorem State.putCell_start (s : State) (x : Window) (k : Nat) (w : Word) :
    (s.putCell x k w).start = s.start := rfl

@[simp] theorem State.putCell_flash (s : State) (x : Window) (k : Nat) (w : Word) :
    (s.putCell x k w).flash = s.flash := rfl

@[simp] theorem State.putCell_pending (s : State) (x : Window) (k : Nat) (w : Word) :
    (s.putCell x k w).pending = s.pending := rfl

@[simp] theorem State.putDWord_path (s : State) (a : Nat) (d : DWord) :
    (s.putDWord a d).path = s.path := rfl

@[simp] theorem State.putDWord_cfg (s : State) (a : Nat) (d : DWord) :
    (s.putDWord a d).cfg = s.cfg := rfl

@[simp] theorem State.putDWord_sale (s : State) (a : Nat) (d : DWord) :
    (s.putDWord a d).sale = s.sale := rfl

@[simp] theorem State.putDWord_tariff (s : State) (a : Nat) (d : DWord) :
    (s.putDWord a d).tariff = s.tariff := rfl

@[simp] theorem State.putDWord_permit (s : State) (a : Nat) (d : DWord) :
    (s.putDWord a d).permit = s.permit := rfl

@[simp] theorem State.putDWord_cash (s : State) (a : Nat) (d : DWord) :
    (s.putDWord a d).cash = s.cash := rfl

@[simp] theorem State.putDWord_fault (s : State) (a : Nat) (d : DWord) :
    (s.putDWord a d).fault = s.fault := rfl

@[simp] theorem State.putDWord_time (s : State) (a : Nat) (d : DWord) :
    (s.putDWord a d).time = s.time := rfl

@[simp] theorem State.putDWord_lines (s : State) (a : Nat) (d : DWord) :
    (s.putDWord a d).lines = s.lines := rfl

@[simp] theorem State.putDWord_start (s : State) (a : Nat) (d : DWord) :
    (s.putDWord a d).start = s.start := rfl

@[simp] theorem State.putDWord_flash (s : State) (a : Nat) (d : DWord) :
    (s.putDWord a d).flash = s.flash := rfl

@[simp] theorem State.putDWord_pending (s : State) (a : Nat) (d : DWord) :
    (s.putDWord a d).pending = s.pending := rfl

@[simp] theorem State.putBytes_path (s : State) (a : Nat) (hi lo : Bool) (w : Word) :
    (s.putBytes a hi lo w).path = s.path := rfl

@[simp] theorem State.putBytes_cfg (s : State) (a : Nat) (hi lo : Bool) (w : Word) :
    (s.putBytes a hi lo w).cfg = s.cfg := rfl

@[simp] theorem State.putBytes_sale (s : State) (a : Nat) (hi lo : Bool) (w : Word) :
    (s.putBytes a hi lo w).sale = s.sale := rfl

@[simp] theorem State.putBytes_tariff (s : State) (a : Nat) (hi lo : Bool) (w : Word) :
    (s.putBytes a hi lo w).tariff = s.tariff := rfl

@[simp] theorem State.putBytes_permit (s : State) (a : Nat) (hi lo : Bool) (w : Word) :
    (s.putBytes a hi lo w).permit = s.permit := rfl

@[simp] theorem State.putBytes_cash (s : State) (a : Nat) (hi lo : Bool) (w : Word) :
    (s.putBytes a hi lo w).cash = s.cash := rfl

@[simp] theorem State.putBytes_fault (s : State) (a : Nat) (hi lo : Bool) (w : Word) :
    (s.putBytes a hi lo w).fault = s.fault := rfl

@[simp] theorem State.putBytes_time (s : State) (a : Nat) (hi lo : Bool) (w : Word) :
    (s.putBytes a hi lo w).time = s.time := rfl

@[simp] theorem State.putBytes_lines (s : State) (a : Nat) (hi lo : Bool) (w : Word) :
    (s.putBytes a hi lo w).lines = s.lines := rfl

@[simp] theorem State.putBytes_start (s : State) (a : Nat) (hi lo : Bool) (w : Word) :
    (s.putBytes a hi lo w).start = s.start := rfl

@[simp] theorem State.putBytes_flash (s : State) (a : Nat) (hi lo : Bool) (w : Word) :
    (s.putBytes a hi lo w).flash = s.flash := rfl

@[simp] theorem State.putBytes_pending (s : State) (a : Nat) (hi lo : Bool) (w : Word) :
    (s.putBytes a hi lo w).pending = s.pending := rfl

@[simp] theorem State.replyWith_cfg (s : State) (t : Term) (d : HostData) :
    (s.replyWith t d).cfg = s.cfg := rfl

@[simp] theorem State.replyWith_sale (s : State) (t : Term) (d : HostData) :
    (s.replyWith t d).sale = s.sale := rfl

@[simp] theorem State.replyWith_tariff (s : State) (t : Term) (d : HostData) :
    (s.replyWith t d).tariff = s.tariff := rfl

@[simp] theorem State.replyWith_permit (s : State) (t : Term) (d : HostData) :
    (s.replyWith t d).permit = s.permit := rfl

@[simp] theorem State.replyWith_cash (s : State) (t : Term) (d : HostData) :
    (s.replyWith t d).cash = s.cash := rfl

@[simp] theorem State.replyWith_fault (s : State) (t : Term) (d : HostData) :
    (s.replyWith t d).fault = s.fault := rfl

@[simp] theorem State.replyWith_time (s : State) (t : Term) (d : HostData) :
    (s.replyWith t d).time = s.time := rfl

@[simp] theorem State.replyWith_lines (s : State) (t : Term) (d : HostData) :
    (s.replyWith t d).lines = s.lines := rfl

@[simp] theorem State.replyWith_start (s : State) (t : Term) (d : HostData) :
    (s.replyWith t d).start = s.start := rfl

@[simp] theorem State.replyWith_flash (s : State) (t : Term) (d : HostData) :
    (s.replyWith t d).flash = s.flash := rfl

@[simp] theorem State.replyWith_mem (s : State) (t : Term) (d : HostData) :
    (s.replyWith t d).mem = s.mem := rfl

@[simp] theorem State.replyWith_driven (s : State) (t : Term) (d : HostData) :
    (s.replyWith t d).driven = s.driven := rfl

@[simp] theorem State.replyWith_pending (s : State) (t : Term) (d : HostData) :
    (s.replyWith t d).pending = s.pending := rfl

@[simp] theorem State.mark_cfg (s : State) (g : Group) :
    (s.mark g).cfg = s.cfg := rfl

@[simp] theorem State.mark_sale (s : State) (g : Group) :
    (s.mark g).sale = s.sale := rfl

@[simp] theorem State.mark_tariff (s : State) (g : Group) :
    (s.mark g).tariff = s.tariff := rfl

@[simp] theorem State.mark_permit (s : State) (g : Group) :
    (s.mark g).permit = s.permit := rfl

@[simp] theorem State.mark_cash (s : State) (g : Group) :
    (s.mark g).cash = s.cash := rfl

@[simp] theorem State.mark_fault (s : State) (g : Group) :
    (s.mark g).fault = s.fault := rfl

@[simp] theorem State.mark_time (s : State) (g : Group) :
    (s.mark g).time = s.time := rfl

@[simp] theorem State.mark_lines (s : State) (g : Group) :
    (s.mark g).lines = s.lines := rfl

@[simp] theorem State.mark_start (s : State) (g : Group) :
    (s.mark g).start = s.start := rfl

@[simp] theorem State.mark_flash (s : State) (g : Group) :
    (s.mark g).flash = s.flash := rfl

@[simp] theorem State.mark_mem (s : State) (g : Group) :
    (s.mark g).mem = s.mem := rfl

@[simp] theorem State.mark_driven (s : State) (g : Group) :
    (s.mark g).driven = s.driven := rfl

@[simp] theorem State.mark_pending (s : State) (g : Group) :
    (s.mark g).pending = s.pending := rfl

@[simp] theorem State.owe_cfg (s : State) (g : Group) :
    (s.owe g).cfg = s.cfg := rfl

@[simp] theorem State.owe_sale (s : State) (g : Group) :
    (s.owe g).sale = s.sale := rfl

@[simp] theorem State.owe_tariff (s : State) (g : Group) :
    (s.owe g).tariff = s.tariff := rfl

@[simp] theorem State.owe_permit (s : State) (g : Group) :
    (s.owe g).permit = s.permit := rfl

@[simp] theorem State.owe_cash (s : State) (g : Group) :
    (s.owe g).cash = s.cash := rfl

@[simp] theorem State.owe_fault (s : State) (g : Group) :
    (s.owe g).fault = s.fault := rfl

@[simp] theorem State.owe_time (s : State) (g : Group) :
    (s.owe g).time = s.time := rfl

@[simp] theorem State.owe_lines (s : State) (g : Group) :
    (s.owe g).lines = s.lines := rfl

@[simp] theorem State.owe_start (s : State) (g : Group) :
    (s.owe g).start = s.start := rfl

@[simp] theorem State.owe_flash (s : State) (g : Group) :
    (s.owe g).flash = s.flash := rfl

@[simp] theorem State.owe_mem (s : State) (g : Group) :
    (s.owe g).mem = s.mem := rfl

@[simp] theorem State.owe_driven (s : State) (g : Group) :
    (s.owe g).driven = s.driven := rfl

@[simp] theorem State.owe_pending (s : State) (g : Group) :
    (s.owe g).pending = s.pending := rfl

@[simp] theorem State.phaseTo_path (s : State) (p : StartPhase) :
    (s.phaseTo p).path = s.path := rfl

@[simp] theorem State.phaseTo_cfg (s : State) (p : StartPhase) :
    (s.phaseTo p).cfg = s.cfg := rfl

@[simp] theorem State.phaseTo_sale (s : State) (p : StartPhase) :
    (s.phaseTo p).sale = s.sale := rfl

@[simp] theorem State.phaseTo_tariff (s : State) (p : StartPhase) :
    (s.phaseTo p).tariff = s.tariff := rfl

@[simp] theorem State.phaseTo_permit (s : State) (p : StartPhase) :
    (s.phaseTo p).permit = s.permit := rfl

@[simp] theorem State.phaseTo_cash (s : State) (p : StartPhase) :
    (s.phaseTo p).cash = s.cash := rfl

@[simp] theorem State.phaseTo_fault (s : State) (p : StartPhase) :
    (s.phaseTo p).fault = s.fault := rfl

@[simp] theorem State.phaseTo_time (s : State) (p : StartPhase) :
    (s.phaseTo p).time = s.time := rfl

@[simp] theorem State.phaseTo_lines (s : State) (p : StartPhase) :
    (s.phaseTo p).lines = s.lines := rfl

@[simp] theorem State.phaseTo_flash (s : State) (p : StartPhase) :
    (s.phaseTo p).flash = s.flash := rfl

@[simp] theorem State.phaseTo_mem (s : State) (p : StartPhase) :
    (s.phaseTo p).mem = s.mem := rfl

@[simp] theorem State.phaseTo_driven (s : State) (p : StartPhase) :
    (s.phaseTo p).driven = s.driven := rfl

@[simp] theorem State.phaseTo_pending (s : State) (p : StartPhase) :
    (s.phaseTo p).pending = s.pending := rfl

@[simp] theorem State.retry_cfg (s : State) :
    (s.retry).cfg = s.cfg := rfl

@[simp] theorem State.retry_sale (s : State) :
    (s.retry).sale = s.sale := rfl

@[simp] theorem State.retry_tariff (s : State) :
    (s.retry).tariff = s.tariff := rfl

@[simp] theorem State.retry_permit (s : State) :
    (s.retry).permit = s.permit := rfl

@[simp] theorem State.retry_cash (s : State) :
    (s.retry).cash = s.cash := rfl

@[simp] theorem State.retry_fault (s : State) :
    (s.retry).fault = s.fault := rfl

@[simp] theorem State.retry_time (s : State) :
    (s.retry).time = s.time := rfl

@[simp] theorem State.retry_lines (s : State) :
    (s.retry).lines = s.lines := rfl

@[simp] theorem State.retry_start (s : State) :
    (s.retry).start = s.start := rfl

@[simp] theorem State.retry_flash (s : State) :
    (s.retry).flash = s.flash := rfl

@[simp] theorem State.retry_mem (s : State) :
    (s.retry).mem = s.mem := rfl

@[simp] theorem State.retry_driven (s : State) :
    (s.retry).driven = s.driven := rfl

@[simp] theorem State.retry_pending (s : State) :
    (s.retry).pending = s.pending := rfl

@[simp] theorem State.putMirrors_path (s : State) :
    (s.putMirrors).path = s.path := rfl

@[simp] theorem State.putMirrors_cfg (s : State) :
    (s.putMirrors).cfg = s.cfg := rfl

@[simp] theorem State.putMirrors_sale (s : State) :
    (s.putMirrors).sale = s.sale := rfl

@[simp] theorem State.putMirrors_tariff (s : State) :
    (s.putMirrors).tariff = s.tariff := rfl

@[simp] theorem State.putMirrors_permit (s : State) :
    (s.putMirrors).permit = s.permit := rfl

@[simp] theorem State.putMirrors_cash (s : State) :
    (s.putMirrors).cash = s.cash := rfl

@[simp] theorem State.putMirrors_fault (s : State) :
    (s.putMirrors).fault = s.fault := rfl

@[simp] theorem State.putMirrors_time (s : State) :
    (s.putMirrors).time = s.time := rfl

@[simp] theorem State.putMirrors_lines (s : State) :
    (s.putMirrors).lines = s.lines := rfl

@[simp] theorem State.putMirrors_start (s : State) :
    (s.putMirrors).start = s.start := rfl

@[simp] theorem State.putMirrors_flash (s : State) :
    (s.putMirrors).flash = s.flash := rfl

@[simp] theorem State.putMirrors_pending (s : State) :
    (s.putMirrors).pending = s.pending := rfl

@[simp] theorem State.putStepDone_path (s : State) (n : Nat) :
    (s.putStepDone n).path = s.path := rfl

@[simp] theorem State.putStepDone_cfg (s : State) (n : Nat) :
    (s.putStepDone n).cfg = s.cfg := rfl

@[simp] theorem State.putStepDone_sale (s : State) (n : Nat) :
    (s.putStepDone n).sale = s.sale := rfl

@[simp] theorem State.putStepDone_tariff (s : State) (n : Nat) :
    (s.putStepDone n).tariff = s.tariff := rfl

@[simp] theorem State.putStepDone_permit (s : State) (n : Nat) :
    (s.putStepDone n).permit = s.permit := rfl

@[simp] theorem State.putStepDone_cash (s : State) (n : Nat) :
    (s.putStepDone n).cash = s.cash := rfl

@[simp] theorem State.putStepDone_fault (s : State) (n : Nat) :
    (s.putStepDone n).fault = s.fault := rfl

@[simp] theorem State.putStepDone_time (s : State) (n : Nat) :
    (s.putStepDone n).time = s.time := rfl

@[simp] theorem State.putStepDone_lines (s : State) (n : Nat) :
    (s.putStepDone n).lines = s.lines := rfl

@[simp] theorem State.putStepDone_start (s : State) (n : Nat) :
    (s.putStepDone n).start = s.start := rfl

@[simp] theorem State.putStepDone_flash (s : State) (n : Nat) :
    (s.putStepDone n).flash = s.flash := rfl

@[simp] theorem State.putStepDone_pending (s : State) (n : Nat) :
    (s.putStepDone n).pending = s.pending := rfl

@[simp] theorem State.nextMinute_path (s : State) :
    (s.nextMinute).path = s.path := rfl

@[simp] theorem State.nextMinute_cfg (s : State) :
    (s.nextMinute).cfg = s.cfg := rfl

@[simp] theorem State.nextMinute_sale (s : State) :
    (s.nextMinute).sale = s.sale := rfl

@[simp] theorem State.nextMinute_tariff (s : State) :
    (s.nextMinute).tariff = s.tariff := rfl

@[simp] theorem State.nextMinute_permit (s : State) :
    (s.nextMinute).permit = s.permit := rfl

@[simp] theorem State.nextMinute_cash (s : State) :
    (s.nextMinute).cash = s.cash := rfl

@[simp] theorem State.nextMinute_fault (s : State) :
    (s.nextMinute).fault = s.fault := rfl

@[simp] theorem State.nextMinute_lines (s : State) :
    (s.nextMinute).lines = s.lines := rfl

@[simp] theorem State.nextMinute_start (s : State) :
    (s.nextMinute).start = s.start := rfl

@[simp] theorem State.nextMinute_flash (s : State) :
    (s.nextMinute).flash = s.flash := rfl

@[simp] theorem State.nextMinute_mem (s : State) :
    (s.nextMinute).mem = s.mem := rfl

@[simp] theorem State.nextMinute_driven (s : State) :
    (s.nextMinute).driven = s.driven := rfl

@[simp] theorem State.nextMinute_pending (s : State) :
    (s.nextMinute).pending = s.pending := rfl

@[simp] theorem State.begin_driven (s : State) : s.begin.driven = [] := rfl

@[simp] theorem State.withPending_pending (s : State) (q : List Instr) :
    (s.withPending q).pending = q := rfl

@[simp] theorem State.put_mem (s : State) (a : Nat) (w : Word) :
    (s.put a w).mem = s.mem.writeWord a w := rfl

@[simp] theorem State.put_driven (s : State) (a : Nat) (w : Word) :
    (s.put a w).driven = (a, w) :: s.driven := rfl

@[simp] theorem State.putCell_mem (s : State) (x : Window) (k : Nat) (w : Word) :
    (s.putCell x k w).mem = s.mem.writeWord (s.at x k) w := rfl

@[simp] theorem State.putBytes_mem (s : State) (a : Nat) (hi lo : Bool) (w : Word) :
    (s.putBytes a hi lo w).mem = s.mem.writeWord a (mergeBytes (s.word a) w hi lo) := rfl

@[simp] theorem State.replyWith_reply (s : State) (t : Term) (d : HostData) :
    (s.replyWith t d).path.reply = { term := t, data := d } := rfl

@[simp] theorem State.phaseTo_phase (s : State) (p : StartPhase) : (s.phaseTo p).start.phase = p := rfl

@[simp] theorem State.hostGrant_cfg (s : State) : s.hostGrant.cfg = s.cfg := rfl

@[simp] theorem State.served_cfg (s : State) (es : List Engine) : (s.served es).cfg = s.cfg := rfl

@[simp] theorem State.rowTo_cfg (s t : State) (es : List Engine) (n : Nat) :
    (s.rowTo t es n).cfg = t.cfg := rfl

@[simp] theorem State.hostGrant_sale (s : State) : s.hostGrant.sale = s.sale := rfl

@[simp] theorem State.served_sale (s : State) (es : List Engine) : (s.served es).sale = s.sale := rfl

@[simp] theorem State.rowTo_sale (s t : State) (es : List Engine) (n : Nat) :
    (s.rowTo t es n).sale = t.sale := rfl

@[simp] theorem State.hostGrant_tariff (s : State) : s.hostGrant.tariff = s.tariff := rfl

@[simp] theorem State.served_tariff (s : State) (es : List Engine) : (s.served es).tariff = s.tariff := rfl

@[simp] theorem State.rowTo_tariff (s t : State) (es : List Engine) (n : Nat) :
    (s.rowTo t es n).tariff = t.tariff := rfl

@[simp] theorem State.hostGrant_permit (s : State) : s.hostGrant.permit = s.permit := rfl

@[simp] theorem State.served_permit (s : State) (es : List Engine) : (s.served es).permit = s.permit := rfl

@[simp] theorem State.rowTo_permit (s t : State) (es : List Engine) (n : Nat) :
    (s.rowTo t es n).permit = t.permit := rfl

@[simp] theorem State.hostGrant_cash (s : State) : s.hostGrant.cash = s.cash := rfl

@[simp] theorem State.served_cash (s : State) (es : List Engine) : (s.served es).cash = s.cash := rfl

@[simp] theorem State.rowTo_cash (s t : State) (es : List Engine) (n : Nat) :
    (s.rowTo t es n).cash = t.cash := rfl

@[simp] theorem State.hostGrant_fault (s : State) : s.hostGrant.fault = s.fault := rfl

@[simp] theorem State.served_fault (s : State) (es : List Engine) : (s.served es).fault = s.fault := rfl

@[simp] theorem State.rowTo_fault (s t : State) (es : List Engine) (n : Nat) :
    (s.rowTo t es n).fault = t.fault := rfl

@[simp] theorem State.hostGrant_time (s : State) : s.hostGrant.time = s.time := rfl

@[simp] theorem State.served_time (s : State) (es : List Engine) : (s.served es).time = s.time := rfl

@[simp] theorem State.rowTo_time (s t : State) (es : List Engine) (n : Nat) :
    (s.rowTo t es n).time = t.time := rfl

@[simp] theorem State.hostGrant_lines (s : State) : s.hostGrant.lines = s.lines := rfl

@[simp] theorem State.served_lines (s : State) (es : List Engine) : (s.served es).lines = s.lines := rfl

@[simp] theorem State.rowTo_lines (s t : State) (es : List Engine) (n : Nat) :
    (s.rowTo t es n).lines = t.lines := rfl

@[simp] theorem State.hostGrant_start (s : State) : s.hostGrant.start = s.start := rfl

@[simp] theorem State.served_start (s : State) (es : List Engine) : (s.served es).start = s.start := rfl

@[simp] theorem State.rowTo_start (s t : State) (es : List Engine) (n : Nat) :
    (s.rowTo t es n).start = t.start := rfl

@[simp] theorem State.hostGrant_flash (s : State) : s.hostGrant.flash = s.flash := rfl

@[simp] theorem State.served_flash (s : State) (es : List Engine) : (s.served es).flash = s.flash := rfl

@[simp] theorem State.rowTo_flash (s t : State) (es : List Engine) (n : Nat) :
    (s.rowTo t es n).flash = t.flash := rfl

@[simp] theorem State.hostGrant_mem (s : State) : s.hostGrant.mem = s.mem := rfl

@[simp] theorem State.served_mem (s : State) (es : List Engine) : (s.served es).mem = s.mem := rfl

@[simp] theorem State.rowTo_mem (s t : State) (es : List Engine) (n : Nat) :
    (s.rowTo t es n).mem = t.mem := rfl

@[simp] theorem State.hostGrant_driven (s : State) : s.hostGrant.driven = s.driven := rfl

@[simp] theorem State.served_driven (s : State) (es : List Engine) : (s.served es).driven = s.driven := rfl

@[simp] theorem State.rowTo_driven (s t : State) (es : List Engine) (n : Nat) :
    (s.rowTo t es n).driven = t.driven := rfl

@[simp] theorem State.hostGrant_pending (s : State) : s.hostGrant.pending = s.pending := rfl

@[simp] theorem State.served_pending (s : State) (es : List Engine) : (s.served es).pending = s.pending := rfl

@[simp] theorem State.rowTo_pending (s t : State) (es : List Engine) (n : Nat) :
    (s.rowTo t es n).pending = t.pending := rfl

@[simp] theorem State.hostGrant_path_mode (s : State) : s.hostGrant.path.mode = s.path.mode := rfl

@[simp] theorem State.served_path_mode (s : State) (es : List Engine) : (s.served es).path.mode = s.path.mode := rfl

@[simp] theorem State.rowTo_path_mode (s t : State) (es : List Engine) (n : Nat) :
    (s.rowTo t es n).path.mode = t.path.mode := rfl

@[simp] theorem State.hostGrant_path_map (s : State) : s.hostGrant.path.map = s.path.map := rfl

@[simp] theorem State.served_path_map (s : State) (es : List Engine) : (s.served es).path.map = s.path.map := rfl

@[simp] theorem State.rowTo_path_map (s t : State) (es : List Engine) (n : Nat) :
    (s.rowTo t es n).path.map = t.path.map := rfl

@[simp] theorem State.hostGrant_path_owed (s : State) : s.hostGrant.path.owed = s.path.owed := rfl

@[simp] theorem State.served_path_owed (s : State) (es : List Engine) : (s.served es).path.owed = s.path.owed := rfl

@[simp] theorem State.rowTo_path_owed (s t : State) (es : List Engine) (n : Nat) :
    (s.rowTo t es n).path.owed = t.path.owed := rfl

@[simp] theorem State.hostGrant_path_ready (s : State) : s.hostGrant.path.ready = s.path.ready := rfl

@[simp] theorem State.served_path_ready (s : State) (es : List Engine) : (s.served es).path.ready = s.path.ready := rfl

@[simp] theorem State.rowTo_path_ready (s t : State) (es : List Engine) (n : Nat) :
    (s.rowTo t es n).path.ready = t.path.ready := rfl

@[simp] theorem State.hostGrant_path_slot (s : State) : s.hostGrant.path.slot = s.path.slot := rfl

@[simp] theorem State.served_path_slot (s : State) (es : List Engine) : (s.served es).path.slot = s.path.slot := rfl

@[simp] theorem State.rowTo_path_slot (s t : State) (es : List Engine) (n : Nat) :
    (s.rowTo t es n).path.slot = t.path.slot := rfl

@[simp] theorem State.hostGrant_path_reply (s : State) : s.hostGrant.path.reply = s.path.reply := rfl

@[simp] theorem State.served_path_reply (s : State) (es : List Engine) : (s.served es).path.reply = s.path.reply := rfl

@[simp] theorem State.rowTo_path_reply (s t : State) (es : List Engine) (n : Nat) :
    (s.rowTo t es n).path.reply = t.path.reply := rfl

/-- A row's end differs from what the row does in the arbiter alone. -/
theorem State.rowTo_eq (s t : State) (es : List Engine) (n : Nat) :
    s.rowTo t es n = { t with path.arb := (es ++ s.enginesTo t n).foldl Arbiter.serve t.path.arb } := rfl

/-- With no engine at the port the row's end is what the row does. -/
@[simp] theorem State.served_nil (s : State) : s.served [] = s := rfl

end Sys2Proof.Machine
end

