-- ==== Sys2Proof/Laws/Frames.lean ====
section
/-! SUPPORT. What each shared operation leaves unchanged: one lemma for each field it never touches. -/

namespace Sys2Proof.Machine

@[simp] theorem State.putRun_path (s : State) (a : Nat) (ws : List Word) :
    (s.putRun a ws).path = s.path := by
  induction ws generalizing s a with
  | nil => rfl
  | cons w ws ih => exact ih (s.put a w) (a + 2)

@[simp] theorem State.putAll_path (s : State) (ps : List (Nat × Word)) :
    (s.putAll ps).path = s.path := by
  induction ps generalizing s with
  | nil => rfl
  | cons p ps ih => obtain ⟨a, w⟩ := p; exact ih (s.put a w)

@[simp] theorem State.putRun_cfg (s : State) (a : Nat) (ws : List Word) :
    (s.putRun a ws).cfg = s.cfg := by
  induction ws generalizing s a with
  | nil => rfl
  | cons w ws ih => exact ih (s.put a w) (a + 2)

@[simp] theorem State.putAll_cfg (s : State) (ps : List (Nat × Word)) :
    (s.putAll ps).cfg = s.cfg := by
  induction ps generalizing s with
  | nil => rfl
  | cons p ps ih => obtain ⟨a, w⟩ := p; exact ih (s.put a w)

@[simp] theorem State.putRun_sale (s : State) (a : Nat) (ws : List Word) :
    (s.putRun a ws).sale = s.sale := by
  induction ws generalizing s a with
  | nil => rfl
  | cons w ws ih => exact ih (s.put a w) (a + 2)

@[simp] theorem State.putAll_sale (s : State) (ps : List (Nat × Word)) :
    (s.putAll ps).sale = s.sale := by
  induction ps generalizing s with
  | nil => rfl
  | cons p ps ih => obtain ⟨a, w⟩ := p; exact ih (s.put a w)

@[simp] theorem State.putRun_tariff (s : State) (a : Nat) (ws : List Word) :
    (s.putRun a ws).tariff = s.tariff := by
  induction ws generalizing s a with
  | nil => rfl
  | cons w ws ih => exact ih (s.put a w) (a + 2)

@[simp] theorem State.putAll_tariff (s : State) (ps : List (Nat × Word)) :
    (s.putAll ps).tariff = s.tariff := by
  induction ps generalizing s with
  | nil => rfl
  | cons p ps ih => obtain ⟨a, w⟩ := p; exact ih (s.put a w)

@[simp] theorem State.putRun_permit (s : State) (a : Nat) (ws : List Word) :
    (s.putRun a ws).permit = s.permit := by
  induction ws generalizing s a with
  | nil => rfl
  | cons w ws ih => exact ih (s.put a w) (a + 2)

@[simp] theorem State.putAll_permit (s : State) (ps : List (Nat × Word)) :
    (s.putAll ps).permit = s.permit := by
  induction ps generalizing s with
  | nil => rfl
  | cons p ps ih => obtain ⟨a, w⟩ := p; exact ih (s.put a w)

@[simp] theorem State.putRun_cash (s : State) (a : Nat) (ws : List Word) :
    (s.putRun a ws).cash = s.cash := by
  induction ws generalizing s a with
  | nil => rfl
  | cons w ws ih => exact ih (s.put a w) (a + 2)

@[simp] theorem State.putAll_cash (s : State) (ps : List (Nat × Word)) :
    (s.putAll ps).cash = s.cash := by
  induction ps generalizing s with
  | nil => rfl
  | cons p ps ih => obtain ⟨a, w⟩ := p; exact ih (s.put a w)

@[simp] theorem State.putRun_fault (s : State) (a : Nat) (ws : List Word) :
    (s.putRun a ws).fault = s.fault := by
  induction ws generalizing s a with
  | nil => rfl
  | cons w ws ih => exact ih (s.put a w) (a + 2)

@[simp] theorem State.putAll_fault (s : State) (ps : List (Nat × Word)) :
    (s.putAll ps).fault = s.fault := by
  induction ps generalizing s with
  | nil => rfl
  | cons p ps ih => obtain ⟨a, w⟩ := p; exact ih (s.put a w)

@[simp] theorem State.putRun_time (s : State) (a : Nat) (ws : List Word) :
    (s.putRun a ws).time = s.time := by
  induction ws generalizing s a with
  | nil => rfl
  | cons w ws ih => exact ih (s.put a w) (a + 2)

@[simp] theorem State.putAll_time (s : State) (ps : List (Nat × Word)) :
    (s.putAll ps).time = s.time := by
  induction ps generalizing s with
  | nil => rfl
  | cons p ps ih => obtain ⟨a, w⟩ := p; exact ih (s.put a w)

@[simp] theorem State.putRun_lines (s : State) (a : Nat) (ws : List Word) :
    (s.putRun a ws).lines = s.lines := by
  induction ws generalizing s a with
  | nil => rfl
  | cons w ws ih => exact ih (s.put a w) (a + 2)

@[simp] theorem State.putAll_lines (s : State) (ps : List (Nat × Word)) :
    (s.putAll ps).lines = s.lines := by
  induction ps generalizing s with
  | nil => rfl
  | cons p ps ih => obtain ⟨a, w⟩ := p; exact ih (s.put a w)

@[simp] theorem State.putRun_start (s : State) (a : Nat) (ws : List Word) :
    (s.putRun a ws).start = s.start := by
  induction ws generalizing s a with
  | nil => rfl
  | cons w ws ih => exact ih (s.put a w) (a + 2)

@[simp] theorem State.putAll_start (s : State) (ps : List (Nat × Word)) :
    (s.putAll ps).start = s.start := by
  induction ps generalizing s with
  | nil => rfl
  | cons p ps ih => obtain ⟨a, w⟩ := p; exact ih (s.put a w)

@[simp] theorem State.putRun_flash (s : State) (a : Nat) (ws : List Word) :
    (s.putRun a ws).flash = s.flash := by
  induction ws generalizing s a with
  | nil => rfl
  | cons w ws ih => exact ih (s.put a w) (a + 2)

@[simp] theorem State.putAll_flash (s : State) (ps : List (Nat × Word)) :
    (s.putAll ps).flash = s.flash := by
  induction ps generalizing s with
  | nil => rfl
  | cons p ps ih => obtain ⟨a, w⟩ := p; exact ih (s.put a w)

@[simp] theorem State.putRun_pending (s : State) (a : Nat) (ws : List Word) :
    (s.putRun a ws).pending = s.pending := by
  induction ws generalizing s a with
  | nil => rfl
  | cons w ws ih => exact ih (s.put a w) (a + 2)

@[simp] theorem State.putAll_pending (s : State) (ps : List (Nat × Word)) :
    (s.putAll ps).pending = s.pending := by
  induction ps generalizing s with
  | nil => rfl
  | cons p ps ih => obtain ⟨a, w⟩ := p; exact ih (s.put a w)

@[simp] theorem State.report_cfg (s : State) (g : Group) :
    (s.report g).cfg = s.cfg := by
  unfold State.report; split <;> rfl

@[simp] theorem State.report_sale (s : State) (g : Group) :
    (s.report g).sale = s.sale := by
  unfold State.report; split <;> rfl

@[simp] theorem State.report_tariff (s : State) (g : Group) :
    (s.report g).tariff = s.tariff := by
  unfold State.report; split <;> rfl

@[simp] theorem State.report_permit (s : State) (g : Group) :
    (s.report g).permit = s.permit := by
  unfold State.report; split <;> rfl

@[simp] theorem State.report_cash (s : State) (g : Group) :
    (s.report g).cash = s.cash := by
  unfold State.report; split <;> rfl

@[simp] theorem State.report_fault (s : State) (g : Group) :
    (s.report g).fault = s.fault := by
  unfold State.report; split <;> rfl

@[simp] theorem State.report_time (s : State) (g : Group) :
    (s.report g).time = s.time := by
  unfold State.report; split <;> rfl

@[simp] theorem State.report_lines (s : State) (g : Group) :
    (s.report g).lines = s.lines := by
  unfold State.report; split <;> rfl

@[simp] theorem State.report_start (s : State) (g : Group) :
    (s.report g).start = s.start := by
  unfold State.report; split <;> rfl

@[simp] theorem State.report_flash (s : State) (g : Group) :
    (s.report g).flash = s.flash := by
  unfold State.report; split <;> rfl

@[simp] theorem State.report_mem (s : State) (g : Group) :
    (s.report g).mem = s.mem := by
  unfold State.report; split <;> rfl

@[simp] theorem State.report_driven (s : State) (g : Group) :
    (s.report g).driven = s.driven := by
  unfold State.report; split <;> rfl

@[simp] theorem State.report_pending (s : State) (g : Group) :
    (s.report g).pending = s.pending := by
  unfold State.report; split <;> rfl

@[simp] theorem State.answer_cfg (s : State) (g : Group) :
    (s.answer g).cfg = s.cfg := by
  unfold State.answer; simp

@[simp] theorem State.answer_sale (s : State) (g : Group) :
    (s.answer g).sale = s.sale := by
  unfold State.answer; simp

@[simp] theorem State.answer_tariff (s : State) (g : Group) :
    (s.answer g).tariff = s.tariff := by
  unfold State.answer; simp

@[simp] theorem State.answer_permit (s : State) (g : Group) :
    (s.answer g).permit = s.permit := by
  unfold State.answer; simp

@[simp] theorem State.answer_cash (s : State) (g : Group) :
    (s.answer g).cash = s.cash := by
  unfold State.answer; simp

@[simp] theorem State.answer_fault (s : State) (g : Group) :
    (s.answer g).fault = s.fault := by
  unfold State.answer; simp

@[simp] theorem State.answer_time (s : State) (g : Group) :
    (s.answer g).time = s.time := by
  unfold State.answer; simp

@[simp] theorem State.answer_lines (s : State) (g : Group) :
    (s.answer g).lines = s.lines := by
  unfold State.answer; simp

@[simp] theorem State.answer_start (s : State) (g : Group) :
    (s.answer g).start = s.start := by
  unfold State.answer; simp

@[simp] theorem State.answer_flash (s : State) (g : Group) :
    (s.answer g).flash = s.flash := by
  unfold State.answer; simp

@[simp] theorem State.answer_mem (s : State) (g : Group) :
    (s.answer g).mem = s.mem := by
  unfold State.answer; simp

@[simp] theorem State.answer_driven (s : State) (g : Group) :
    (s.answer g).driven = s.driven := by
  unfold State.answer; simp

@[simp] theorem State.answer_pending (s : State) (g : Group) :
    (s.answer g).pending = s.pending := by
  unfold State.answer; simp

@[simp] theorem State.rewrite_cfg (s : State) (i : Image) :
    (s.rewrite i).cfg = s.cfg := by
  unfold State.rewrite; split <;> rfl

@[simp] theorem State.rewrite_sale (s : State) (i : Image) :
    (s.rewrite i).sale = s.sale := by
  unfold State.rewrite; split <;> rfl

@[simp] theorem State.rewrite_tariff (s : State) (i : Image) :
    (s.rewrite i).tariff = s.tariff := by
  unfold State.rewrite; split <;> rfl

@[simp] theorem State.rewrite_permit (s : State) (i : Image) :
    (s.rewrite i).permit = s.permit := by
  unfold State.rewrite; split <;> rfl

@[simp] theorem State.rewrite_cash (s : State) (i : Image) :
    (s.rewrite i).cash = s.cash := by
  unfold State.rewrite; split <;> rfl

@[simp] theorem State.rewrite_fault (s : State) (i : Image) :
    (s.rewrite i).fault = s.fault := by
  unfold State.rewrite; split <;> rfl

@[simp] theorem State.rewrite_time (s : State) (i : Image) :
    (s.rewrite i).time = s.time := by
  unfold State.rewrite; split <;> rfl

@[simp] theorem State.rewrite_lines (s : State) (i : Image) :
    (s.rewrite i).lines = s.lines := by
  unfold State.rewrite; split <;> rfl

@[simp] theorem State.rewrite_start (s : State) (i : Image) :
    (s.rewrite i).start = s.start := by
  unfold State.rewrite; split <;> rfl

@[simp] theorem State.rewrite_flash (s : State) (i : Image) :
    (s.rewrite i).flash = s.flash := by
  unfold State.rewrite; split <;> rfl

@[simp] theorem State.rewrite_mem (s : State) (i : Image) :
    (s.rewrite i).mem = s.mem := by
  unfold State.rewrite; split <;> rfl

@[simp] theorem State.rewrite_driven (s : State) (i : Image) :
    (s.rewrite i).driven = s.driven := by
  unfold State.rewrite; split <;> rfl

@[simp] theorem State.rewrite_pending (s : State) (i : Image) :
    (s.rewrite i).pending = s.pending := by
  unfold State.rewrite; split <;> rfl

@[simp] theorem State.unlatch_cfg (s : State) (w : BitVec 23) :
    (s.unlatch w).cfg = s.cfg := by
  unfold State.unlatch; split <;> (try split) <;> rfl

@[simp] theorem State.unlatch_sale (s : State) (w : BitVec 23) :
    (s.unlatch w).sale = s.sale := by
  unfold State.unlatch; split <;> (try split) <;> rfl

@[simp] theorem State.unlatch_tariff (s : State) (w : BitVec 23) :
    (s.unlatch w).tariff = s.tariff := by
  unfold State.unlatch; split <;> (try split) <;> rfl

@[simp] theorem State.unlatch_permit (s : State) (w : BitVec 23) :
    (s.unlatch w).permit = s.permit := by
  unfold State.unlatch; split <;> (try split) <;> rfl

@[simp] theorem State.unlatch_cash (s : State) (w : BitVec 23) :
    (s.unlatch w).cash = s.cash := by
  unfold State.unlatch; split <;> (try split) <;> rfl

@[simp] theorem State.unlatch_fault (s : State) (w : BitVec 23) :
    (s.unlatch w).fault = s.fault := by
  unfold State.unlatch; split <;> (try split) <;> rfl

@[simp] theorem State.unlatch_time (s : State) (w : BitVec 23) :
    (s.unlatch w).time = s.time := by
  unfold State.unlatch; split <;> (try split) <;> rfl

@[simp] theorem State.unlatch_lines (s : State) (w : BitVec 23) :
    (s.unlatch w).lines = s.lines := by
  unfold State.unlatch; split <;> (try split) <;> rfl

@[simp] theorem State.unlatch_start (s : State) (w : BitVec 23) :
    (s.unlatch w).start = s.start := by
  unfold State.unlatch; split <;> (try split) <;> rfl

@[simp] theorem State.unlatch_flash (s : State) (w : BitVec 23) :
    (s.unlatch w).flash = s.flash := by
  unfold State.unlatch; split <;> (try split) <;> rfl

@[simp] theorem State.unlatch_mem (s : State) (w : BitVec 23) :
    (s.unlatch w).mem = s.mem := by
  unfold State.unlatch; split <;> (try split) <;> rfl

@[simp] theorem State.unlatch_driven (s : State) (w : BitVec 23) :
    (s.unlatch w).driven = s.driven := by
  unfold State.unlatch; split <;> (try split) <;> rfl

@[simp] theorem State.unlatch_pending (s : State) (w : BitVec 23) :
    (s.unlatch w).pending = s.pending := by
  unfold State.unlatch; split <;> (try split) <;> rfl

@[simp] theorem State.peekIfMoved_cfg (s : State) (w : Word) :
    (s.peekIfMoved w).cfg = s.cfg := by
  unfold State.peekIfMoved; split <;> simp

@[simp] theorem State.peekIfMoved_sale (s : State) (w : Word) :
    (s.peekIfMoved w).sale = s.sale := by
  unfold State.peekIfMoved; split <;> simp

@[simp] theorem State.peekIfMoved_tariff (s : State) (w : Word) :
    (s.peekIfMoved w).tariff = s.tariff := by
  unfold State.peekIfMoved; split <;> simp

@[simp] theorem State.peekIfMoved_permit (s : State) (w : Word) :
    (s.peekIfMoved w).permit = s.permit := by
  unfold State.peekIfMoved; split <;> simp

@[simp] theorem State.peekIfMoved_cash (s : State) (w : Word) :
    (s.peekIfMoved w).cash = s.cash := by
  unfold State.peekIfMoved; split <;> simp

@[simp] theorem State.peekIfMoved_fault (s : State) (w : Word) :
    (s.peekIfMoved w).fault = s.fault := by
  unfold State.peekIfMoved; split <;> simp

@[simp] theorem State.peekIfMoved_time (s : State) (w : Word) :
    (s.peekIfMoved w).time = s.time := by
  unfold State.peekIfMoved; split <;> simp

@[simp] theorem State.peekIfMoved_lines (s : State) (w : Word) :
    (s.peekIfMoved w).lines = s.lines := by
  unfold State.peekIfMoved; split <;> simp

@[simp] theorem State.peekIfMoved_start (s : State) (w : Word) :
    (s.peekIfMoved w).start = s.start := by
  unfold State.peekIfMoved; split <;> simp

@[simp] theorem State.peekIfMoved_flash (s : State) (w : Word) :
    (s.peekIfMoved w).flash = s.flash := by
  unfold State.peekIfMoved; split <;> simp

@[simp] theorem State.peekIfMoved_mem (s : State) (w : Word) :
    (s.peekIfMoved w).mem = s.mem := by
  unfold State.peekIfMoved; split <;> simp

@[simp] theorem State.peekIfMoved_driven (s : State) (w : Word) :
    (s.peekIfMoved w).driven = s.driven := by
  unfold State.peekIfMoved; split <;> simp

@[simp] theorem State.peekIfMoved_pending (s : State) (w : Word) :
    (s.peekIfMoved w).pending = s.pending := by
  unfold State.peekIfMoved; split <;> simp

@[simp] theorem State.linesIfMoved_cfg (s : State) (l : Levels) :
    (s.linesIfMoved l).cfg = s.cfg := by
  unfold State.linesIfMoved; split <;> simp

@[simp] theorem State.linesIfMoved_sale (s : State) (l : Levels) :
    (s.linesIfMoved l).sale = s.sale := by
  unfold State.linesIfMoved; split <;> simp

@[simp] theorem State.linesIfMoved_tariff (s : State) (l : Levels) :
    (s.linesIfMoved l).tariff = s.tariff := by
  unfold State.linesIfMoved; split <;> simp

@[simp] theorem State.linesIfMoved_permit (s : State) (l : Levels) :
    (s.linesIfMoved l).permit = s.permit := by
  unfold State.linesIfMoved; split <;> simp

@[simp] theorem State.linesIfMoved_cash (s : State) (l : Levels) :
    (s.linesIfMoved l).cash = s.cash := by
  unfold State.linesIfMoved; split <;> simp

@[simp] theorem State.linesIfMoved_fault (s : State) (l : Levels) :
    (s.linesIfMoved l).fault = s.fault := by
  unfold State.linesIfMoved; split <;> simp

@[simp] theorem State.linesIfMoved_time (s : State) (l : Levels) :
    (s.linesIfMoved l).time = s.time := by
  unfold State.linesIfMoved; split <;> simp

@[simp] theorem State.linesIfMoved_lines (s : State) (l : Levels) :
    (s.linesIfMoved l).lines = s.lines := by
  unfold State.linesIfMoved; split <;> simp

@[simp] theorem State.linesIfMoved_start (s : State) (l : Levels) :
    (s.linesIfMoved l).start = s.start := by
  unfold State.linesIfMoved; split <;> simp

@[simp] theorem State.linesIfMoved_flash (s : State) (l : Levels) :
    (s.linesIfMoved l).flash = s.flash := by
  unfold State.linesIfMoved; split <;> simp

@[simp] theorem State.linesIfMoved_mem (s : State) (l : Levels) :
    (s.linesIfMoved l).mem = s.mem := by
  unfold State.linesIfMoved; split <;> simp

@[simp] theorem State.linesIfMoved_driven (s : State) (l : Levels) :
    (s.linesIfMoved l).driven = s.driven := by
  unfold State.linesIfMoved; split <;> simp

@[simp] theorem State.linesIfMoved_pending (s : State) (l : Levels) :
    (s.linesIfMoved l).pending = s.pending := by
  unfold State.linesIfMoved; split <;> simp

@[simp] theorem State.raiseSource_cfg (s : State) (x : Source) (n : Word) :
    (s.raiseSource x n).cfg = s.cfg := by
  unfold State.raiseSource; simp

@[simp] theorem State.raiseSource_sale (s : State) (x : Source) (n : Word) :
    (s.raiseSource x n).sale = s.sale := by
  unfold State.raiseSource; simp

@[simp] theorem State.raiseSource_tariff (s : State) (x : Source) (n : Word) :
    (s.raiseSource x n).tariff = s.tariff := by
  unfold State.raiseSource; simp

@[simp] theorem State.raiseSource_permit (s : State) (x : Source) (n : Word) :
    (s.raiseSource x n).permit = s.permit := by
  unfold State.raiseSource; simp

@[simp] theorem State.raiseSource_cash (s : State) (x : Source) (n : Word) :
    (s.raiseSource x n).cash = s.cash := by
  unfold State.raiseSource; simp

@[simp] theorem State.raiseSource_time (s : State) (x : Source) (n : Word) :
    (s.raiseSource x n).time = s.time := by
  unfold State.raiseSource; simp

@[simp] theorem State.raiseSource_lines (s : State) (x : Source) (n : Word) :
    (s.raiseSource x n).lines = s.lines := by
  unfold State.raiseSource; simp

@[simp] theorem State.raiseSource_start (s : State) (x : Source) (n : Word) :
    (s.raiseSource x n).start = s.start := by
  unfold State.raiseSource; simp

@[simp] theorem State.raiseSource_flash (s : State) (x : Source) (n : Word) :
    (s.raiseSource x n).flash = s.flash := by
  unfold State.raiseSource; simp

@[simp] theorem State.raiseSource_mem (s : State) (x : Source) (n : Word) :
    (s.raiseSource x n).mem = s.mem := by
  unfold State.raiseSource; simp

@[simp] theorem State.raiseSource_driven (s : State) (x : Source) (n : Word) :
    (s.raiseSource x n).driven = s.driven := by
  unfold State.raiseSource; simp

@[simp] theorem State.raiseSource_pending (s : State) (x : Source) (n : Word) :
    (s.raiseSource x n).pending = s.pending := by
  unfold State.raiseSource; simp

@[simp] theorem State.latchLive_cfg (s : State) :
    (s.latchLive).cfg = s.cfg := by
  unfold State.latchLive; simp

@[simp] theorem State.latchLive_sale (s : State) :
    (s.latchLive).sale = s.sale := by
  unfold State.latchLive; simp

@[simp] theorem State.latchLive_tariff (s : State) :
    (s.latchLive).tariff = s.tariff := by
  unfold State.latchLive; simp

@[simp] theorem State.latchLive_permit (s : State) :
    (s.latchLive).permit = s.permit := by
  unfold State.latchLive; simp

@[simp] theorem State.latchLive_fault (s : State) :
    (s.latchLive).fault = s.fault := by
  unfold State.latchLive; simp

@[simp] theorem State.latchLive_time (s : State) :
    (s.latchLive).time = s.time := by
  unfold State.latchLive; simp

@[simp] theorem State.latchLive_lines (s : State) :
    (s.latchLive).lines = s.lines := by
  unfold State.latchLive; simp

@[simp] theorem State.latchLive_start (s : State) :
    (s.latchLive).start = s.start := by
  unfold State.latchLive; simp

@[simp] theorem State.latchLive_flash (s : State) :
    (s.latchLive).flash = s.flash := by
  unfold State.latchLive; simp

@[simp] theorem State.latchLive_mem (s : State) :
    (s.latchLive).mem = s.mem := by
  unfold State.latchLive; simp

@[simp] theorem State.latchLive_driven (s : State) :
    (s.latchLive).driven = s.driven := by
  unfold State.latchLive; simp

@[simp] theorem State.latchLive_pending (s : State) :
    (s.latchLive).pending = s.pending := by
  unfold State.latchLive; simp

@[simp] theorem State.raiseCash_cfg (s : State) (b : Bool) :
    (s.raiseCash b).cfg = s.cfg := by
  unfold State.raiseCash; dsimp only; split <;> simp

@[simp] theorem State.raiseCash_sale (s : State) (b : Bool) :
    (s.raiseCash b).sale = s.sale := by
  unfold State.raiseCash; dsimp only; split <;> simp

@[simp] theorem State.raiseCash_tariff (s : State) (b : Bool) :
    (s.raiseCash b).tariff = s.tariff := by
  unfold State.raiseCash; dsimp only; split <;> simp

@[simp] theorem State.raiseCash_permit (s : State) (b : Bool) :
    (s.raiseCash b).permit = s.permit := by
  unfold State.raiseCash; dsimp only; split <;> simp

@[simp] theorem State.raiseCash_time (s : State) (b : Bool) :
    (s.raiseCash b).time = s.time := by
  unfold State.raiseCash; dsimp only; split <;> simp

@[simp] theorem State.raiseCash_lines (s : State) (b : Bool) :
    (s.raiseCash b).lines = s.lines := by
  unfold State.raiseCash; dsimp only; split <;> simp

@[simp] theorem State.raiseCash_start (s : State) (b : Bool) :
    (s.raiseCash b).start = s.start := by
  unfold State.raiseCash; dsimp only; split <;> simp

@[simp] theorem State.raiseCash_flash (s : State) (b : Bool) :
    (s.raiseCash b).flash = s.flash := by
  unfold State.raiseCash; dsimp only; split <;> simp

@[simp] theorem State.raiseCash_mem (s : State) (b : Bool) :
    (s.raiseCash b).mem = s.mem := by
  unfold State.raiseCash; dsimp only; split <;> simp

@[simp] theorem State.raiseCash_driven (s : State) (b : Bool) :
    (s.raiseCash b).driven = s.driven := by
  unfold State.raiseCash; dsimp only; split <;> simp

@[simp] theorem State.raiseCash_pending (s : State) (b : Bool) :
    (s.raiseCash b).pending = s.pending := by
  unfold State.raiseCash; dsimp only; split <;> simp

@[simp] theorem State.lockPass_path (s : State) :
    (s.lockPass).path = s.path := by
  unfold State.lockPass; split <;> rfl

@[simp] theorem State.lockPass_cfg (s : State) :
    (s.lockPass).cfg = s.cfg := by
  unfold State.lockPass; split <;> rfl

@[simp] theorem State.lockPass_sale (s : State) :
    (s.lockPass).sale = s.sale := by
  unfold State.lockPass; split <;> rfl

@[simp] theorem State.lockPass_tariff (s : State) :
    (s.lockPass).tariff = s.tariff := by
  unfold State.lockPass; split <;> rfl

@[simp] theorem State.lockPass_cash (s : State) :
    (s.lockPass).cash = s.cash := by
  unfold State.lockPass; split <;> rfl

@[simp] theorem State.lockPass_fault (s : State) :
    (s.lockPass).fault = s.fault := by
  unfold State.lockPass; split <;> rfl

@[simp] theorem State.lockPass_time (s : State) :
    (s.lockPass).time = s.time := by
  unfold State.lockPass; split <;> rfl

@[simp] theorem State.lockPass_lines (s : State) :
    (s.lockPass).lines = s.lines := by
  unfold State.lockPass; split <;> rfl

@[simp] theorem State.lockPass_start (s : State) :
    (s.lockPass).start = s.start := by
  unfold State.lockPass; split <;> rfl

@[simp] theorem State.lockPass_flash (s : State) :
    (s.lockPass).flash = s.flash := by
  unfold State.lockPass; split <;> rfl

@[simp] theorem State.lockPass_mem (s : State) :
    (s.lockPass).mem = s.mem := by
  unfold State.lockPass; split <;> rfl

@[simp] theorem State.lockPass_driven (s : State) :
    (s.lockPass).driven = s.driven := by
  unfold State.lockPass; split <;> rfl

@[simp] theorem State.lockPass_pending (s : State) :
    (s.lockPass).pending = s.pending := by
  unfold State.lockPass; split <;> rfl

@[simp] theorem State.lockAsk_path (s : State) (k : LockKind) :
    (s.lockAsk k).path = s.path := by
  unfold State.lockAsk; simp

@[simp] theorem State.lockAsk_cfg (s : State) (k : LockKind) :
    (s.lockAsk k).cfg = s.cfg := by
  unfold State.lockAsk; simp

@[simp] theorem State.lockAsk_sale (s : State) (k : LockKind) :
    (s.lockAsk k).sale = s.sale := by
  unfold State.lockAsk; simp

@[simp] theorem State.lockAsk_tariff (s : State) (k : LockKind) :
    (s.lockAsk k).tariff = s.tariff := by
  unfold State.lockAsk; simp

@[simp] theorem State.lockAsk_cash (s : State) (k : LockKind) :
    (s.lockAsk k).cash = s.cash := by
  unfold State.lockAsk; simp

@[simp] theorem State.lockAsk_fault (s : State) (k : LockKind) :
    (s.lockAsk k).fault = s.fault := by
  unfold State.lockAsk; simp

@[simp] theorem State.lockAsk_time (s : State) (k : LockKind) :
    (s.lockAsk k).time = s.time := by
  unfold State.lockAsk; simp

@[simp] theorem State.lockAsk_lines (s : State) (k : LockKind) :
    (s.lockAsk k).lines = s.lines := by
  unfold State.lockAsk; simp

@[simp] theorem State.lockAsk_start (s : State) (k : LockKind) :
    (s.lockAsk k).start = s.start := by
  unfold State.lockAsk; simp

@[simp] theorem State.lockAsk_flash (s : State) (k : LockKind) :
    (s.lockAsk k).flash = s.flash := by
  unfold State.lockAsk; simp

@[simp] theorem State.lockAsk_mem (s : State) (k : LockKind) :
    (s.lockAsk k).mem = s.mem := by
  unfold State.lockAsk; simp

@[simp] theorem State.lockAsk_driven (s : State) (k : LockKind) :
    (s.lockAsk k).driven = s.driven := by
  unfold State.lockAsk; simp

@[simp] theorem State.lockAsk_pending (s : State) (k : LockKind) :
    (s.lockAsk k).pending = s.pending := by
  unfold State.lockAsk; simp

@[simp] theorem State.lockRelease_path (s : State) :
    (s.lockRelease).path = s.path := by
  unfold State.lockRelease; simp

@[simp] theorem State.lockRelease_cfg (s : State) :
    (s.lockRelease).cfg = s.cfg := by
  unfold State.lockRelease; simp

@[simp] theorem State.lockRelease_sale (s : State) :
    (s.lockRelease).sale = s.sale := by
  unfold State.lockRelease; simp

@[simp] theorem State.lockRelease_tariff (s : State) :
    (s.lockRelease).tariff = s.tariff := by
  unfold State.lockRelease; simp

@[simp] theorem State.lockRelease_cash (s : State) :
    (s.lockRelease).cash = s.cash := by
  unfold State.lockRelease; simp

@[simp] theorem State.lockRelease_fault (s : State) :
    (s.lockRelease).fault = s.fault := by
  unfold State.lockRelease; simp

@[simp] theorem State.lockRelease_time (s : State) :
    (s.lockRelease).time = s.time := by
  unfold State.lockRelease; simp

@[simp] theorem State.lockRelease_lines (s : State) :
    (s.lockRelease).lines = s.lines := by
  unfold State.lockRelease; simp

@[simp] theorem State.lockRelease_start (s : State) :
    (s.lockRelease).start = s.start := by
  unfold State.lockRelease; simp

@[simp] theorem State.lockRelease_flash (s : State) :
    (s.lockRelease).flash = s.flash := by
  unfold State.lockRelease; simp

@[simp] theorem State.lockRelease_mem (s : State) :
    (s.lockRelease).mem = s.mem := by
  unfold State.lockRelease; simp

@[simp] theorem State.lockRelease_driven (s : State) :
    (s.lockRelease).driven = s.driven := by
  unfold State.lockRelease; simp

@[simp] theorem State.lockRelease_pending (s : State) :
    (s.lockRelease).pending = s.pending := by
  unfold State.lockRelease; simp

@[simp] theorem State.amendKick_path (s : State) :
    (s.amendKick).path = s.path := by
  unfold State.amendKick; split <;> simp

@[simp] theorem State.amendKick_cfg (s : State) :
    (s.amendKick).cfg = s.cfg := by
  unfold State.amendKick; split <;> simp

@[simp] theorem State.amendKick_sale (s : State) :
    (s.amendKick).sale = s.sale := by
  unfold State.amendKick; split <;> simp

@[simp] theorem State.amendKick_tariff (s : State) :
    (s.amendKick).tariff = s.tariff := by
  unfold State.amendKick; split <;> simp

@[simp] theorem State.amendKick_cash (s : State) :
    (s.amendKick).cash = s.cash := by
  unfold State.amendKick; split <;> simp

@[simp] theorem State.amendKick_fault (s : State) :
    (s.amendKick).fault = s.fault := by
  unfold State.amendKick; split <;> simp

@[simp] theorem State.amendKick_time (s : State) :
    (s.amendKick).time = s.time := by
  unfold State.amendKick; split <;> simp

@[simp] theorem State.amendKick_lines (s : State) :
    (s.amendKick).lines = s.lines := by
  unfold State.amendKick; split <;> simp

@[simp] theorem State.amendKick_start (s : State) :
    (s.amendKick).start = s.start := by
  unfold State.amendKick; split <;> simp

@[simp] theorem State.amendKick_flash (s : State) :
    (s.amendKick).flash = s.flash := by
  unfold State.amendKick; split <;> simp

@[simp] theorem State.amendKick_mem (s : State) :
    (s.amendKick).mem = s.mem := by
  unfold State.amendKick; split <;> simp

@[simp] theorem State.amendKick_driven (s : State) :
    (s.amendKick).driven = s.driven := by
  unfold State.amendKick; split <;> simp

@[simp] theorem State.amendKick_pending (s : State) :
    (s.amendKick).pending = s.pending := by
  unfold State.amendKick; split <;> simp

@[simp] theorem State.dropSearch_path (s : State) :
    (s.dropSearch).path = s.path := by
  unfold State.dropSearch; split <;> (try split) <;> rfl

@[simp] theorem State.dropSearch_cfg (s : State) :
    (s.dropSearch).cfg = s.cfg := by
  unfold State.dropSearch; split <;> (try split) <;> rfl

@[simp] theorem State.dropSearch_sale (s : State) :
    (s.dropSearch).sale = s.sale := by
  unfold State.dropSearch; split <;> (try split) <;> rfl

@[simp] theorem State.dropSearch_tariff (s : State) :
    (s.dropSearch).tariff = s.tariff := by
  unfold State.dropSearch; split <;> (try split) <;> rfl

@[simp] theorem State.dropSearch_cash (s : State) :
    (s.dropSearch).cash = s.cash := by
  unfold State.dropSearch; split <;> (try split) <;> rfl

@[simp] theorem State.dropSearch_fault (s : State) :
    (s.dropSearch).fault = s.fault := by
  unfold State.dropSearch; split <;> (try split) <;> rfl

@[simp] theorem State.dropSearch_time (s : State) :
    (s.dropSearch).time = s.time := by
  unfold State.dropSearch; split <;> (try split) <;> rfl

@[simp] theorem State.dropSearch_lines (s : State) :
    (s.dropSearch).lines = s.lines := by
  unfold State.dropSearch; split <;> (try split) <;> rfl

@[simp] theorem State.dropSearch_start (s : State) :
    (s.dropSearch).start = s.start := by
  unfold State.dropSearch; split <;> (try split) <;> rfl

@[simp] theorem State.dropSearch_flash (s : State) :
    (s.dropSearch).flash = s.flash := by
  unfold State.dropSearch; split <;> (try split) <;> rfl

@[simp] theorem State.dropSearch_mem (s : State) :
    (s.dropSearch).mem = s.mem := by
  unfold State.dropSearch; split <;> (try split) <;> rfl

@[simp] theorem State.dropSearch_driven (s : State) :
    (s.dropSearch).driven = s.driven := by
  unfold State.dropSearch; split <;> (try split) <;> rfl

@[simp] theorem State.dropSearch_pending (s : State) :
    (s.dropSearch).pending = s.pending := by
  unfold State.dropSearch; split <;> (try split) <;> rfl

@[simp] theorem State.startPrice_cfg (s : State) :
    (s.startPrice).cfg = s.cfg := by
  unfold State.startPrice; dsimp only; split <;> simp

@[simp] theorem State.startPrice_sale (s : State) :
    (s.startPrice).sale = s.sale := by
  unfold State.startPrice; dsimp only; split <;> simp

@[simp] theorem State.startPrice_permit (s : State) :
    (s.startPrice).permit = s.permit := by
  unfold State.startPrice; dsimp only; split <;> simp

@[simp] theorem State.startPrice_cash (s : State) :
    (s.startPrice).cash = s.cash := by
  unfold State.startPrice; dsimp only; split <;> simp

@[simp] theorem State.startPrice_fault (s : State) :
    (s.startPrice).fault = s.fault := by
  unfold State.startPrice; dsimp only; split <;> simp

@[simp] theorem State.startPrice_time (s : State) :
    (s.startPrice).time = s.time := by
  unfold State.startPrice; dsimp only; split <;> simp

@[simp] theorem State.startPrice_lines (s : State) :
    (s.startPrice).lines = s.lines := by
  unfold State.startPrice; dsimp only; split <;> simp

@[simp] theorem State.startPrice_start (s : State) :
    (s.startPrice).start = s.start := by
  unfold State.startPrice; dsimp only; split <;> simp

@[simp] theorem State.startPrice_flash (s : State) :
    (s.startPrice).flash = s.flash := by
  unfold State.startPrice; dsimp only; split <;> simp

@[simp] theorem State.startPrice_mem (s : State) :
    (s.startPrice).mem = s.mem := by
  unfold State.startPrice; dsimp only; split <;> simp

@[simp] theorem State.startPrice_driven (s : State) :
    (s.startPrice).driven = s.driven := by
  unfold State.startPrice; dsimp only; split <;> simp

@[simp] theorem State.startPrice_pending (s : State) :
    (s.startPrice).pending = s.pending := by
  unfold State.startPrice; dsimp only; split <;> simp

@[simp] theorem State.abandonPrice_cfg (s : State) :
    (s.abandonPrice).cfg = s.cfg := by
  unfold State.abandonPrice; split <;> simp

@[simp] theorem State.abandonPrice_sale (s : State) :
    (s.abandonPrice).sale = s.sale := by
  unfold State.abandonPrice; split <;> simp

@[simp] theorem State.abandonPrice_permit (s : State) :
    (s.abandonPrice).permit = s.permit := by
  unfold State.abandonPrice; split <;> simp

@[simp] theorem State.abandonPrice_cash (s : State) :
    (s.abandonPrice).cash = s.cash := by
  unfold State.abandonPrice; split <;> simp

@[simp] theorem State.abandonPrice_fault (s : State) :
    (s.abandonPrice).fault = s.fault := by
  unfold State.abandonPrice; split <;> simp

@[simp] theorem State.abandonPrice_time (s : State) :
    (s.abandonPrice).time = s.time := by
  unfold State.abandonPrice; split <;> simp

@[simp] theorem State.abandonPrice_lines (s : State) :
    (s.abandonPrice).lines = s.lines := by
  unfold State.abandonPrice; split <;> simp

@[simp] theorem State.abandonPrice_start (s : State) :
    (s.abandonPrice).start = s.start := by
  unfold State.abandonPrice; split <;> simp

@[simp] theorem State.abandonPrice_flash (s : State) :
    (s.abandonPrice).flash = s.flash := by
  unfold State.abandonPrice; split <;> simp

@[simp] theorem State.abandonPrice_mem (s : State) :
    (s.abandonPrice).mem = s.mem := by
  unfold State.abandonPrice; split <;> simp

@[simp] theorem State.abandonPrice_driven (s : State) :
    (s.abandonPrice).driven = s.driven := by
  unfold State.abandonPrice; split <;> simp

@[simp] theorem State.abandonPrice_pending (s : State) :
    (s.abandonPrice).pending = s.pending := by
  unfold State.abandonPrice; split <;> simp

@[simp] theorem State.armIntent_path (s : State) (c : Close) :
    (s.armIntent c).path = s.path := by
  unfold State.armIntent; simp

@[simp] theorem State.armIntent_cfg (s : State) (c : Close) :
    (s.armIntent c).cfg = s.cfg := by
  unfold State.armIntent; simp

@[simp] theorem State.armIntent_sale (s : State) (c : Close) :
    (s.armIntent c).sale = s.sale := by
  unfold State.armIntent; simp

@[simp] theorem State.armIntent_tariff (s : State) (c : Close) :
    (s.armIntent c).tariff = s.tariff := by
  unfold State.armIntent; simp

@[simp] theorem State.armIntent_permit (s : State) (c : Close) :
    (s.armIntent c).permit = s.permit := by
  unfold State.armIntent; simp

@[simp] theorem State.armIntent_cash (s : State) (c : Close) :
    (s.armIntent c).cash = s.cash := by
  unfold State.armIntent; simp

@[simp] theorem State.armIntent_fault (s : State) (c : Close) :
    (s.armIntent c).fault = s.fault := by
  unfold State.armIntent; simp

@[simp] theorem State.armIntent_time (s : State) (c : Close) :
    (s.armIntent c).time = s.time := by
  unfold State.armIntent; simp

@[simp] theorem State.armIntent_lines (s : State) (c : Close) :
    (s.armIntent c).lines = s.lines := by
  unfold State.armIntent; simp

@[simp] theorem State.armIntent_start (s : State) (c : Close) :
    (s.armIntent c).start = s.start := by
  unfold State.armIntent; simp

@[simp] theorem State.armIntent_flash (s : State) (c : Close) :
    (s.armIntent c).flash = s.flash := by
  unfold State.armIntent; simp

@[simp] theorem State.armIntent_pending (s : State) (c : Close) :
    (s.armIntent c).pending = s.pending := by
  unfold State.armIntent; simp

@[simp] theorem State.formSaleClose_path (s : State) :
    (s.formSaleClose).path = s.path := by
  unfold State.formSaleClose; simp

@[simp] theorem State.formSaleClose_cfg (s : State) :
    (s.formSaleClose).cfg = s.cfg := by
  unfold State.formSaleClose; simp

@[simp] theorem State.formSaleClose_sale (s : State) :
    (s.formSaleClose).sale = s.sale := by
  unfold State.formSaleClose; simp

@[simp] theorem State.formSaleClose_tariff (s : State) :
    (s.formSaleClose).tariff = s.tariff := by
  unfold State.formSaleClose; simp

@[simp] theorem State.formSaleClose_permit (s : State) :
    (s.formSaleClose).permit = s.permit := by
  unfold State.formSaleClose; simp

@[simp] theorem State.formSaleClose_fault (s : State) :
    (s.formSaleClose).fault = s.fault := by
  unfold State.formSaleClose; simp

@[simp] theorem State.formSaleClose_time (s : State) :
    (s.formSaleClose).time = s.time := by
  unfold State.formSaleClose; simp

@[simp] theorem State.formSaleClose_lines (s : State) :
    (s.formSaleClose).lines = s.lines := by
  unfold State.formSaleClose; simp

@[simp] theorem State.formSaleClose_start (s : State) :
    (s.formSaleClose).start = s.start := by
  unfold State.formSaleClose; simp

@[simp] theorem State.formSaleClose_flash (s : State) :
    (s.formSaleClose).flash = s.flash := by
  unfold State.formSaleClose; simp

@[simp] theorem State.formSaleClose_pending (s : State) :
    (s.formSaleClose).pending = s.pending := by
  unfold State.formSaleClose; simp

/-- A sale's close that waits changes only what waits (R128, R146). -/
theorem State.saleCloseWaits_eq (s : State) :
    s.saleCloseWaits =
      { s with
        cash.waiting :=
          if .saleComes ∈ s.cash.waiting then s.cash.waiting.replace .saleComes .saleClose
          else s.cash.waiting ++ [.saleClose] } := by
  unfold State.saleCloseWaits State.cashWait
  by_cases h : CashWork.saleComes ∈ s.cash.waiting
  · rw [if_pos (List.contains_iff_mem.mpr h), if_pos h]
  · rw [if_neg (fun c => h (List.contains_iff_mem.mp c)), if_neg h]

@[simp] theorem State.handClose_path (s : State) :
    (s.handClose).path = s.path := by
  unfold State.handClose; split
  · simp
  · rw [State.saleCloseWaits_eq]

@[simp] theorem State.handClose_cfg (s : State) :
    (s.handClose).cfg = s.cfg := by
  unfold State.handClose; split
  · simp
  · rw [State.saleCloseWaits_eq]

@[simp] theorem State.handClose_sale (s : State) :
    (s.handClose).sale = s.sale := by
  unfold State.handClose; split
  · simp
  · rw [State.saleCloseWaits_eq]

@[simp] theorem State.handClose_tariff (s : State) :
    (s.handClose).tariff = s.tariff := by
  unfold State.handClose; split
  · simp
  · rw [State.saleCloseWaits_eq]

@[simp] theorem State.handClose_permit (s : State) :
    (s.handClose).permit = s.permit := by
  unfold State.handClose; split
  · simp
  · rw [State.saleCloseWaits_eq]

@[simp] theorem State.handClose_fault (s : State) :
    (s.handClose).fault = s.fault := by
  unfold State.handClose; split
  · simp
  · rw [State.saleCloseWaits_eq]

@[simp] theorem State.handClose_time (s : State) :
    (s.handClose).time = s.time := by
  unfold State.handClose; split
  · simp
  · rw [State.saleCloseWaits_eq]

@[simp] theorem State.handClose_lines (s : State) :
    (s.handClose).lines = s.lines := by
  unfold State.handClose; split
  · simp
  · rw [State.saleCloseWaits_eq]

@[simp] theorem State.handClose_start (s : State) :
    (s.handClose).start = s.start := by
  unfold State.handClose; split
  · simp
  · rw [State.saleCloseWaits_eq]

@[simp] theorem State.handClose_flash (s : State) :
    (s.handClose).flash = s.flash := by
  unfold State.handClose; split
  · simp
  · rw [State.saleCloseWaits_eq]

@[simp] theorem State.handClose_pending (s : State) :
    (s.handClose).pending = s.pending := by
  unfold State.handClose; split
  · simp
  · rw [State.saleCloseWaits_eq]

@[simp] theorem State.voidSearch_cfg (s : State) :
    (s.voidSearch).cfg = s.cfg := by
  unfold State.voidSearch; split <;> simp

@[simp] theorem State.voidSearch_sale (s : State) :
    (s.voidSearch).sale = s.sale := by
  unfold State.voidSearch; split <;> simp

@[simp] theorem State.voidSearch_tariff (s : State) :
    (s.voidSearch).tariff = s.tariff := by
  unfold State.voidSearch; split <;> simp

@[simp] theorem State.voidSearch_cash (s : State) :
    (s.voidSearch).cash = s.cash := by
  unfold State.voidSearch; split <;> simp

@[simp] theorem State.voidSearch_fault (s : State) :
    (s.voidSearch).fault = s.fault := by
  unfold State.voidSearch; split <;> simp

@[simp] theorem State.voidSearch_time (s : State) :
    (s.voidSearch).time = s.time := by
  unfold State.voidSearch; split <;> simp

@[simp] theorem State.voidSearch_lines (s : State) :
    (s.voidSearch).lines = s.lines := by
  unfold State.voidSearch; split <;> simp

@[simp] theorem State.voidSearch_start (s : State) :
    (s.voidSearch).start = s.start := by
  unfold State.voidSearch; split <;> simp

@[simp] theorem State.voidSearch_flash (s : State) :
    (s.voidSearch).flash = s.flash := by
  unfold State.voidSearch; split <;> simp

@[simp] theorem State.voidSearch_mem (s : State) :
    (s.voidSearch).mem = s.mem := by
  unfold State.voidSearch; split <;> simp

@[simp] theorem State.voidSearch_driven (s : State) :
    (s.voidSearch).driven = s.driven := by
  unfold State.voidSearch; split <;> simp

@[simp] theorem State.voidSearch_pending (s : State) :
    (s.voidSearch).pending = s.pending := by
  unfold State.voidSearch; split <;> simp

@[simp] theorem State.beginVoid_cfg (s : State) (r : VoidReason) :
    (s.beginVoid r).cfg = s.cfg := by
  unfold State.beginVoid; simp

@[simp] theorem State.beginVoid_fault (s : State) (r : VoidReason) :
    (s.beginVoid r).fault = s.fault := by
  unfold State.beginVoid; simp

@[simp] theorem State.beginVoid_time (s : State) (r : VoidReason) :
    (s.beginVoid r).time = s.time := by
  unfold State.beginVoid; simp

@[simp] theorem State.beginVoid_lines (s : State) (r : VoidReason) :
    (s.beginVoid r).lines = s.lines := by
  unfold State.beginVoid; simp

@[simp] theorem State.beginVoid_start (s : State) (r : VoidReason) :
    (s.beginVoid r).start = s.start := by
  unfold State.beginVoid; simp

@[simp] theorem State.beginVoid_flash (s : State) (r : VoidReason) :
    (s.beginVoid r).flash = s.flash := by
  unfold State.beginVoid; simp

@[simp] theorem State.beginVoid_pending (s : State) (r : VoidReason) :
    (s.beginVoid r).pending = s.pending := by
  unfold State.beginVoid; simp

@[simp] theorem State.storeFault_path (s : State) (r : FaultRecord) :
    (s.storeFault r).path = s.path := by
  unfold State.storeFault; split <;> rfl

@[simp] theorem State.storeFault_cfg (s : State) (r : FaultRecord) :
    (s.storeFault r).cfg = s.cfg := by
  unfold State.storeFault; split <;> rfl

@[simp] theorem State.storeFault_sale (s : State) (r : FaultRecord) :
    (s.storeFault r).sale = s.sale := by
  unfold State.storeFault; split <;> rfl

@[simp] theorem State.storeFault_tariff (s : State) (r : FaultRecord) :
    (s.storeFault r).tariff = s.tariff := by
  unfold State.storeFault; split <;> rfl

@[simp] theorem State.storeFault_permit (s : State) (r : FaultRecord) :
    (s.storeFault r).permit = s.permit := by
  unfold State.storeFault; split <;> rfl

@[simp] theorem State.storeFault_cash (s : State) (r : FaultRecord) :
    (s.storeFault r).cash = s.cash := by
  unfold State.storeFault; split <;> rfl

@[simp] theorem State.storeFault_time (s : State) (r : FaultRecord) :
    (s.storeFault r).time = s.time := by
  unfold State.storeFault; split <;> rfl

@[simp] theorem State.storeFault_lines (s : State) (r : FaultRecord) :
    (s.storeFault r).lines = s.lines := by
  unfold State.storeFault; split <;> rfl

@[simp] theorem State.storeFault_start (s : State) (r : FaultRecord) :
    (s.storeFault r).start = s.start := by
  unfold State.storeFault; split <;> rfl

@[simp] theorem State.storeFault_flash (s : State) (r : FaultRecord) :
    (s.storeFault r).flash = s.flash := by
  unfold State.storeFault; split <;> rfl

@[simp] theorem State.storeFault_mem (s : State) (r : FaultRecord) :
    (s.storeFault r).mem = s.mem := by
  unfold State.storeFault; split <;> rfl

@[simp] theorem State.storeFault_driven (s : State) (r : FaultRecord) :
    (s.storeFault r).driven = s.driven := by
  unfold State.storeFault; split <;> rfl

@[simp] theorem State.storeFault_pending (s : State) (r : FaultRecord) :
    (s.storeFault r).pending = s.pending := by
  unfold State.storeFault; split <;> rfl

@[simp] theorem State.addCondition_cfg (s : State) (c : Condition) :
    (s.addCondition c).1.cfg = s.cfg := by
  unfold State.addCondition; dsimp only; split
  · rfl
  · split
    · split
      · simp
      · split <;> simp
    · simp

@[simp] theorem State.addCondition_time (s : State) (c : Condition) :
    (s.addCondition c).1.time = s.time := by
  unfold State.addCondition; dsimp only; split
  · rfl
  · split
    · split
      · simp
      · split <;> simp
    · simp

@[simp] theorem State.addCondition_lines (s : State) (c : Condition) :
    (s.addCondition c).1.lines = s.lines := by
  unfold State.addCondition; dsimp only; split
  · rfl
  · split
    · split
      · simp
      · split <;> simp
    · simp

@[simp] theorem State.addCondition_start (s : State) (c : Condition) :
    (s.addCondition c).1.start = s.start := by
  unfold State.addCondition; dsimp only; split
  · rfl
  · split
    · split
      · simp
      · split <;> simp
    · simp

@[simp] theorem State.addCondition_flash (s : State) (c : Condition) :
    (s.addCondition c).1.flash = s.flash := by
  unfold State.addCondition; dsimp only; split
  · rfl
  · split
    · split
      · simp
      · split <;> simp
    · simp

@[simp] theorem State.addCondition_pending (s : State) (c : Condition) :
    (s.addCondition c).1.pending = s.pending := by
  unfold State.addCondition; dsimp only; split
  · rfl
  · split
    · split
      · simp
      · split <;> simp
    · simp

@[simp] theorem State.require_cfg (s : State) (c : Condition) :
    (s.require c).cfg = s.cfg := by
  unfold State.require; dsimp only; split <;> simp

@[simp] theorem State.require_time (s : State) (c : Condition) :
    (s.require c).time = s.time := by
  unfold State.require; dsimp only; split <;> simp

@[simp] theorem State.require_lines (s : State) (c : Condition) :
    (s.require c).lines = s.lines := by
  unfold State.require; dsimp only; split <;> simp

@[simp] theorem State.require_start (s : State) (c : Condition) :
    (s.require c).start = s.start := by
  unfold State.require; dsimp only; split <;> simp

@[simp] theorem State.require_flash (s : State) (c : Condition) :
    (s.require c).flash = s.flash := by
  unfold State.require; dsimp only; split <;> simp

@[simp] theorem State.require_pending (s : State) (c : Condition) :
    (s.require c).pending = s.pending := by
  unfold State.require; dsimp only; split <;> simp

@[simp] theorem State.removeCondition_cfg (s : State) (c : Condition) :
    (s.removeCondition c).cfg = s.cfg := by
  unfold State.removeCondition; dsimp only; split
  · split <;> simp
  · rfl

@[simp] theorem State.removeCondition_tariff (s : State) (c : Condition) :
    (s.removeCondition c).tariff = s.tariff := by
  unfold State.removeCondition; dsimp only; split
  · split <;> simp
  · rfl

@[simp] theorem State.removeCondition_permit (s : State) (c : Condition) :
    (s.removeCondition c).permit = s.permit := by
  unfold State.removeCondition; dsimp only; split
  · split <;> simp
  · rfl

@[simp] theorem State.removeCondition_cash (s : State) (c : Condition) :
    (s.removeCondition c).cash = s.cash := by
  unfold State.removeCondition; dsimp only; split
  · split <;> simp
  · rfl

@[simp] theorem State.removeCondition_time (s : State) (c : Condition) :
    (s.removeCondition c).time = s.time := by
  unfold State.removeCondition; dsimp only; split
  · split <;> simp
  · rfl

@[simp] theorem State.removeCondition_lines (s : State) (c : Condition) :
    (s.removeCondition c).lines = s.lines := by
  unfold State.removeCondition; dsimp only; split
  · split <;> simp
  · rfl

@[simp] theorem State.removeCondition_start (s : State) (c : Condition) :
    (s.removeCondition c).start = s.start := by
  unfold State.removeCondition; dsimp only; split
  · split <;> simp
  · rfl

@[simp] theorem State.removeCondition_flash (s : State) (c : Condition) :
    (s.removeCondition c).flash = s.flash := by
  unfold State.removeCondition; dsimp only; split
  · split <;> simp
  · rfl

@[simp] theorem State.removeCondition_mem (s : State) (c : Condition) :
    (s.removeCondition c).mem = s.mem := by
  unfold State.removeCondition; dsimp only; split
  · split <;> simp
  · rfl

@[simp] theorem State.removeCondition_driven (s : State) (c : Condition) :
    (s.removeCondition c).driven = s.driven := by
  unfold State.removeCondition; dsimp only; split
  · split <;> simp
  · rfl

@[simp] theorem State.removeCondition_pending (s : State) (c : Condition) :
    (s.removeCondition c).pending = s.pending := by
  unfold State.removeCondition; dsimp only; split
  · split <;> simp
  · rfl

@[simp] theorem State.attend_cfg (s : State) (c : FaultClass) (d : Bool) (x : SaleState) (v : Bool) :
    (s.attend c d x v).cfg = s.cfg := by
  unfold State.attend; dsimp only; split
  · simp
  · split <;> simp

@[simp] theorem State.attend_sale (s : State) (c : FaultClass) (d : Bool) (x : SaleState) (v : Bool) :
    (s.attend c d x v).sale = s.sale := by
  unfold State.attend; dsimp only; split
  · simp
  · split <;> simp

@[simp] theorem State.attend_tariff (s : State) (c : FaultClass) (d : Bool) (x : SaleState) (v : Bool) :
    (s.attend c d x v).tariff = s.tariff := by
  unfold State.attend; dsimp only; split
  · simp
  · split <;> simp

@[simp] theorem State.attend_permit (s : State) (c : FaultClass) (d : Bool) (x : SaleState) (v : Bool) :
    (s.attend c d x v).permit = s.permit := by
  unfold State.attend; dsimp only; split
  · simp
  · split <;> simp

@[simp] theorem State.attend_cash (s : State) (c : FaultClass) (d : Bool) (x : SaleState) (v : Bool) :
    (s.attend c d x v).cash = s.cash := by
  unfold State.attend; dsimp only; split
  · simp
  · split <;> simp

@[simp] theorem State.attend_time (s : State) (c : FaultClass) (d : Bool) (x : SaleState) (v : Bool) :
    (s.attend c d x v).time = s.time := by
  unfold State.attend; dsimp only; split
  · simp
  · split <;> simp

@[simp] theorem State.attend_lines (s : State) (c : FaultClass) (d : Bool) (x : SaleState) (v : Bool) :
    (s.attend c d x v).lines = s.lines := by
  unfold State.attend; dsimp only; split
  · simp
  · split <;> simp

@[simp] theorem State.attend_start (s : State) (c : FaultClass) (d : Bool) (x : SaleState) (v : Bool) :
    (s.attend c d x v).start = s.start := by
  unfold State.attend; dsimp only; split
  · simp
  · split <;> simp

@[simp] theorem State.attend_flash (s : State) (c : FaultClass) (d : Bool) (x : SaleState) (v : Bool) :
    (s.attend c d x v).flash = s.flash := by
  unfold State.attend; dsimp only; split
  · simp
  · split <;> simp

@[simp] theorem State.attend_mem (s : State) (c : FaultClass) (d : Bool) (x : SaleState) (v : Bool) :
    (s.attend c d x v).mem = s.mem := by
  unfold State.attend; dsimp only; split
  · simp
  · split <;> simp

@[simp] theorem State.attend_driven (s : State) (c : FaultClass) (d : Bool) (x : SaleState) (v : Bool) :
    (s.attend c d x v).driven = s.driven := by
  unfold State.attend; dsimp only; split
  · simp
  · split <;> simp

@[simp] theorem State.attend_pending (s : State) (c : FaultClass) (d : Bool) (x : SaleState) (v : Bool) :
    (s.attend c d x v).pending = s.pending := by
  unfold State.attend; dsimp only; split
  · simp
  · split <;> simp

@[simp] theorem State.applyRoute_cfg (s : State) (c : FaultClass) (x : SaleState) :
    (s.applyRoute c x).cfg = s.cfg := by
  unfold State.applyRoute; dsimp only; split
  · rfl
  · simp
  · split <;> simp

@[simp] theorem State.applyRoute_time (s : State) (c : FaultClass) (x : SaleState) :
    (s.applyRoute c x).time = s.time := by
  unfold State.applyRoute; dsimp only; split
  · rfl
  · simp
  · split <;> simp

@[simp] theorem State.applyRoute_lines (s : State) (c : FaultClass) (x : SaleState) :
    (s.applyRoute c x).lines = s.lines := by
  unfold State.applyRoute; dsimp only; split
  · rfl
  · simp
  · split <;> simp

@[simp] theorem State.applyRoute_start (s : State) (c : FaultClass) (x : SaleState) :
    (s.applyRoute c x).start = s.start := by
  unfold State.applyRoute; dsimp only; split
  · rfl
  · simp
  · split <;> simp

@[simp] theorem State.applyRoute_flash (s : State) (c : FaultClass) (x : SaleState) :
    (s.applyRoute c x).flash = s.flash := by
  unfold State.applyRoute; dsimp only; split
  · rfl
  · simp
  · split <;> simp

@[simp] theorem State.applyRoute_pending (s : State) (c : FaultClass) (x : SaleState) :
    (s.applyRoute c x).pending = s.pending := by
  unfold State.applyRoute; dsimp only; split
  · rfl
  · simp
  · split <;> simp

@[simp] theorem State.raiseSub_cfg (s : State) (c : FaultClass) (b : Byte) (d : Word) :
    (s.raiseSub c b d).cfg = s.cfg := by
  unfold State.raiseSub; simp

@[simp] theorem State.raiseSub_time (s : State) (c : FaultClass) (b : Byte) (d : Word) :
    (s.raiseSub c b d).time = s.time := by
  unfold State.raiseSub; simp

@[simp] theorem State.raiseSub_lines (s : State) (c : FaultClass) (b : Byte) (d : Word) :
    (s.raiseSub c b d).lines = s.lines := by
  unfold State.raiseSub; simp

@[simp] theorem State.raiseSub_start (s : State) (c : FaultClass) (b : Byte) (d : Word) :
    (s.raiseSub c b d).start = s.start := by
  unfold State.raiseSub; simp

@[simp] theorem State.raiseSub_flash (s : State) (c : FaultClass) (b : Byte) (d : Word) :
    (s.raiseSub c b d).flash = s.flash := by
  unfold State.raiseSub; simp

@[simp] theorem State.raiseSub_pending (s : State) (c : FaultClass) (b : Byte) (d : Word) :
    (s.raiseSub c b d).pending = s.pending := by
  unfold State.raiseSub; simp

@[simp] theorem State.raise_cfg (s : State) (c : FaultClass) (d : Word) :
    (s.raise c d).cfg = s.cfg := by
  unfold State.raise; simp

@[simp] theorem State.raise_time (s : State) (c : FaultClass) (d : Word) :
    (s.raise c d).time = s.time := by
  unfold State.raise; simp

@[simp] theorem State.raise_lines (s : State) (c : FaultClass) (d : Word) :
    (s.raise c d).lines = s.lines := by
  unfold State.raise; simp

@[simp] theorem State.raise_start (s : State) (c : FaultClass) (d : Word) :
    (s.raise c d).start = s.start := by
  unfold State.raise; simp

@[simp] theorem State.raise_flash (s : State) (c : FaultClass) (d : Word) :
    (s.raise c d).flash = s.flash := by
  unfold State.raise; simp

@[simp] theorem State.raise_pending (s : State) (c : FaultClass) (d : Word) :
    (s.raise c d).pending = s.pending := by
  unfold State.raise; simp

end Sys2Proof.Machine
end

