-- ==== Sys2Proof/Laws/Memory.lean ====
section
/-! SUPPORT. Memory keeps its canonical form under every operation, and what a byte or a word reads as
after a write. -/

namespace Sys2Proof.Machine

namespace Memory

theorem wf_nil : Memory.wf [] := ⟨List.Pairwise.nil, by simp⟩

theorem wf_tail {c : Host.Cell} {m : Memory} (h : Memory.wf (c :: m)) : Memory.wf m :=
  ⟨(List.pairwise_cons.mp h.1).2, fun x hx => h.2 x (List.mem_cons_of_mem c hx)⟩

theorem wf_lt {c : Host.Cell} {m : Memory} (h : Memory.wf (c :: m)) : ∀ x ∈ m, c.1 < x.1 :=
  (List.pairwise_cons.mp h.1).1

theorem wf_cons {c : Host.Cell} {m : Memory} (hm : Memory.wf m) (hlt : ∀ x ∈ m, c.1 < x.1)
    (hc : c.2 ≠ Memory.unlisted c.1) : Memory.wf (c :: m) :=
  ⟨List.pairwise_cons.mpr ⟨hlt, hm.1⟩, fun x hx => by
    rcases List.mem_cons.mp hx with rfl | hx
    · exact hc
    · exact hm.2 x hx⟩

/-- Every entry after a write is an old one or the one written. -/
theorem mem_write (m : Memory) (a : Nat) (b : Byte) :
    ∀ x ∈ m.write a b, x ∈ m ∨ x = (a, b) := by
  induction m with
  | nil =>
    intro x hx
    unfold Memory.write at hx
    split at hx
    · simp at hx
    · exact Or.inr (by simpa using hx)
  | cons c m ih =>
    obtain ⟨k, v⟩ := c
    intro x hx
    unfold Memory.write at hx
    split at hx
    · split at hx
      · exact Or.inl hx
      · rcases List.mem_cons.mp hx with rfl | hx
        · exact Or.inr rfl
        · exact Or.inl hx
    · split at hx
      · split at hx
        · exact Or.inl (List.mem_cons_of_mem _ hx)
        · rcases List.mem_cons.mp hx with rfl | hx
          · exact Or.inr rfl
          · exact Or.inl (List.mem_cons_of_mem _ hx)
      · rcases List.mem_cons.mp hx with rfl | hx
        · exact Or.inl (List.mem_cons_self ..)
        · rcases ih x hx with h | h
          · exact Or.inl (List.mem_cons_of_mem _ h)
          · exact Or.inr h

/-- A write keeps the canonical form. -/
theorem wf_write {m : Memory} (h : Memory.wf m) (a : Nat) (b : Byte) : Memory.wf (m.write a b) := by
  induction m with
  | nil =>
    unfold Memory.write
    split
    · exact wf_nil
    · exact wf_cons wf_nil (by simp) (by assumption)
  | cons c m ih =>
    obtain ⟨k, v⟩ := c
    have hlt := wf_lt h
    unfold Memory.write
    split
    · rename_i hak
      split
      · exact h
      · refine wf_cons h ?_ (by assumption)
        intro x hx
        rcases List.mem_cons.mp hx with rfl | hx
        · exact hak
        · exact Nat.lt_trans hak (hlt x hx)
    · split
      · rename_i hak
        split
        · exact wf_tail h
        · subst hak
          exact wf_cons (wf_tail h) hlt (by assumption)
      · rename_i h1 h2
        refine wf_cons (ih (wf_tail h)) ?_ (h.2 (k, v) (List.mem_cons_self ..))
        intro x hx
        rcases mem_write m a b x hx with hx | rfl
        · exact hlt x hx
        · show k < a
          omega

/-- An address below every entry reads as unlisted. -/
theorem read_below {m : Memory} {a : Nat} (h : ∀ x ∈ m, a < x.1) : m.read a = Memory.unlisted a := by
  induction m with
  | nil => rfl
  | cons c m ih =>
    obtain ⟨k, v⟩ := c
    have hk : a < k := h (k, v) (List.mem_cons_self ..)
    unfold Memory.read
    rw [if_neg (by omega)]
    exact ih fun x hx => h x (List.mem_cons_of_mem _ hx)

/-- What a byte reads as after a write. -/
theorem read_write {m : Memory} (h : Memory.wf m) (a x : Nat) (b : Byte) :
    (m.write a b).read x = if x = a then b else m.read x := by
  induction m with
  | nil =>
    unfold Memory.write
    by_cases hb : b = Memory.unlisted a
    · rw [if_pos hb]
      by_cases hx : x = a
      · subst hx; rw [if_pos rfl, hb]; rfl
      · rw [if_neg hx]
    · rw [if_neg hb]
      show (if a = x then b else Memory.read [] x) = _
      by_cases hx : x = a
      · subst hx; simp
      · rw [if_neg (fun e => hx e.symm), if_neg hx]
  | cons c m ih =>
    obtain ⟨k, v⟩ := c
    have hlt := wf_lt h
    unfold Memory.write
    by_cases hak : a < k
    · rw [if_pos hak]
      have hlow : Memory.read ((k, v) :: m) a = Memory.unlisted a := by
        refine read_below ?_
        intro y hy
        rcases List.mem_cons.mp hy with rfl | hy
        · exact hak
        · exact Nat.lt_trans hak (hlt y hy)
      by_cases hb : b = Memory.unlisted a
      · rw [if_pos hb]
        by_cases hx : x = a
        · subst hx; rw [if_pos rfl, hb, hlow]
        · rw [if_neg hx]
      · rw [if_neg hb]
        show (if a = x then b else Memory.read ((k, v) :: m) x) = _
        by_cases hx : x = a
        · subst hx; simp
        · rw [if_neg (fun e => hx e.symm), if_neg hx]
    · rw [if_neg hak]
      by_cases hk : a = k
      · subst hk
        rw [if_pos rfl]
        by_cases hb : b = Memory.unlisted a
        · rw [if_pos hb]
          by_cases hx : x = a
          · subst hx
            rw [if_pos rfl, hb]
            exact read_below hlt
          · rw [if_neg hx]
            show _ = if a = x then v else Memory.read m x
            rw [if_neg (fun e => hx e.symm)]
        · rw [if_neg hb]
          show (if a = x then b else Memory.read m x) =
            if x = a then b else if a = x then v else Memory.read m x
          by_cases hx : x = a
          · subst hx; simp
          · rw [if_neg (fun e => hx e.symm), if_neg hx, if_neg (fun e => hx e.symm)]
      · rw [if_neg hk]
        show (if k = x then v else Memory.read (Memory.write m a b) x) =
          if x = a then b else if k = x then v else Memory.read m x
        rw [ih (wf_tail h)]
        by_cases hx : k = x
        · subst hx; rw [if_pos rfl, if_neg (fun e => hk e.symm), if_pos rfl]
        · rw [if_neg hx, if_neg hx]

theorem wf_writeWord {m : Memory} (h : Memory.wf m) (a : Nat) (w : Word) :
    Memory.wf (m.writeWord a w) := wf_write (wf_write h _ _) _ _

/-- A byte outside the word written reads as before. -/
theorem read_writeWord {m : Memory} (h : Memory.wf m) (a x : Nat) (w : Word) :
    (m.writeWord a w).read x =
      if x = a + 1 then hiByte w else if x = a then loByte w else m.read x := by
  unfold Memory.writeWord
  rw [read_write (wf_write h _ _), read_write h]

theorem mkWord_bytes (w : Word) : mkWord (hiByte w) (loByte w) = w := by
  unfold mkWord hiByte loByte
  ext i hi
  simp only [BitVec.getElem_append, BitVec.getElem_extractLsb']
  split
  · simp [BitVec.getLsbD_eq_getElem hi]
  · rw [show 8 + (i - 8) = i by omega]; simp [BitVec.getLsbD_eq_getElem hi]

/-- The word written reads back. -/
theorem readWord_writeWord {m : Memory} (h : Memory.wf m) (a : Nat) (w : Word) :
    (m.writeWord a w).readWord a = w := by
  unfold Memory.readWord
  rw [read_writeWord h, read_writeWord h, if_pos rfl, if_neg (by omega), if_pos rfl]
  exact mkWord_bytes w

/-- A word that shares no byte with the word written reads as before. -/
theorem readWord_writeWord_other {m : Memory} (h : Memory.wf m) {a x : Nat} (w : Word)
    (hx : x + 1 < a ∨ a + 1 < x) : (m.writeWord a w).readWord x = m.readWord x := by
  unfold Memory.readWord
  rw [read_writeWord h, read_writeWord h, if_neg (by omega), if_neg (by omega), if_neg (by omega),
    if_neg (by omega)]

/-- Unlisting a range keeps the canonical form. -/
theorem wf_unlist {m : Memory} (h : Memory.wf m) (lo hi : Nat) : Memory.wf (m.unlist lo hi) :=
  ⟨h.1.filter _, fun x hx => h.2 x (List.mem_filter.mp hx).1⟩

/-- What a byte reads as after a range is unlisted. -/
theorem read_unlist (m : Memory) (lo hi x : Nat) :
    (m.unlist lo hi).read x = if lo ≤ x ∧ x < hi then Memory.unlisted x else m.read x := by
  induction m with
  | nil => simp [Memory.unlist, Memory.read]
  | cons c m ih =>
    obtain ⟨k, v⟩ := c
    unfold Memory.unlist at ih ⊢
    rw [List.filter_cons]
    by_cases hk : k < lo ∨ hi ≤ k
    · rw [if_pos (by simpa using hk)]
      show (if k = x then v else Memory.read _ x) = _
      rw [ih]
      by_cases hx : k = x
      · subst hx
        rw [if_pos rfl, if_neg (by omega)]
        simp [Memory.read]
      · rw [if_neg hx]
        simp [Memory.read, hx]
    · rw [if_neg (by simpa using hk), ih]
      by_cases hx : lo ≤ x ∧ x < hi
      · rw [if_pos hx, if_pos hx]
      · rw [if_neg hx, if_neg hx]
        have : k ≠ x := by omega
        simp [Memory.read, this]

theorem wf_writeRun {m : Memory} (h : Memory.wf m) (ws : List Word) (a : Nat) :
    Memory.wf (m.writeRun a ws) := by
  induction ws generalizing m a with
  | nil => exact h
  | cons w ws ih => exact ih (wf_writeWord h a w) (a + 2)

theorem wf_writeAll {m : Memory} (h : Memory.wf m) (ps : List (Nat × Word)) :
    Memory.wf (m.writeAll ps) := by
  induction ps generalizing m with
  | nil => exact h
  | cons p ps ih =>
    obtain ⟨a, w⟩ := p
    exact ih (wf_writeWord h a w)

end Memory

/-! ## Flash operations -/

theorem FlashOp.wf_done {m : Memory} (h : Memory.wf m) (op : FlashOp) : Memory.wf (op.done m) := by
  cases op with
  | erase base => exact Memory.wf_unlist h _ _
  | program a v => exact Memory.wf_writeWord h _ _

theorem FlashOp.wf_left {m : Memory} (h : Memory.wf m) (op : FlashOp) (left : List Word) :
    Memory.wf (op.left left m) := by
  cases op with
  | erase base => exact Memory.wf_writeRun h _ _
  | program a v => exact Memory.wf_writeWord h _ _

/-! ## Word writes of the engines -/

theorem State.mem_put (s : State) (a : Nat) (w : Word) : (s.put a w).mem = s.mem.writeWord a w := rfl

/-- Every write of a run keeps the canonical form. -/
theorem State.wf_putRun {s : State} (h : Memory.wf s.mem) (ws : List Word) (a : Nat) :
    Memory.wf (s.putRun a ws).mem := by
  induction ws generalizing s a with
  | nil => exact h
  | cons w ws ih => exact ih (s := s.put a w) (Memory.wf_writeWord h a w) (a + 2)

theorem State.wf_putAll {s : State} (h : Memory.wf s.mem) (ps : List (Nat × Word)) :
    Memory.wf (s.putAll ps).mem := by
  induction ps generalizing s with
  | nil => exact h
  | cons p ps ih =>
    obtain ⟨a, w⟩ := p
    exact ih (s := s.put a w) (Memory.wf_writeWord h a w)

/-- A byte outside a run of words reads as before. -/
theorem State.read_putRun {s : State} (h : Memory.wf s.mem) (ws : List Word) (a x : Nat)
    (hx : x < a ∨ a + 2 * ws.length ≤ x) : (s.putRun a ws).mem.read x = s.mem.read x := by
  induction ws generalizing s a with
  | nil => rfl
  | cons w ws ih =>
    have h1 : Memory.wf (s.put a w).mem := Memory.wf_writeWord h a w
    have hl : (w :: ws).length = ws.length + 1 := rfl
    show ((s.put a w).putRun (a + 2) ws).mem.read x = _
    rw [ih (s := s.put a w) h1 (a + 2) (by omega), State.mem_put, Memory.read_writeWord h,
      if_neg (by omega), if_neg (by omega)]

/-- A byte outside the words written reads as before. -/
theorem State.read_putAll {s : State} (h : Memory.wf s.mem) (ps : List (Nat × Word)) (x : Nat)
    (hx : ∀ p ∈ ps, x < p.1 ∨ p.1 + 1 < x) : (s.putAll ps).mem.read x = s.mem.read x := by
  induction ps generalizing s with
  | nil => rfl
  | cons p ps ih =>
    obtain ⟨a, w⟩ := p
    have h1 : Memory.wf (s.put a w).mem := Memory.wf_writeWord h a w
    have ha := hx (a, w) (List.mem_cons_self ..)
    show ((s.put a w).putAll ps).mem.read x = _
    rw [ih (s := s.put a w) h1 fun p hp => hx p (List.mem_cons_of_mem _ hp), State.mem_put,
      Memory.read_writeWord h, if_neg (by omega), if_neg (by omega)]

end Sys2Proof.Machine
end

