-- ==== Sys2Proof/Laws/Access.lean ====
section
/-! SUPPORT. Where a word of a window lies, and what a word write to a named command cell comes to. -/

namespace Sys2Proof.Machine

/-! ## The window map (R25) -/

/-- The placement checks, one by one. -/
theorem WindowMap.placed_iff {m : WindowMap} (h : m.placed = true) :
    ((∀ w : Window, m.base w % 2 = 0) ∧ (∀ w : Window, w ≠ .book → m.within w 0x800000 0xFFFFFF = true))
      ∧ m.within .book 0 0x7FEFFF = true
      ∧ ∀ v w : Window, (v == w || m.disjoint v w) = true := by
  unfold WindowMap.placed at h
  simp only [Bool.and_eq_true, List.all_eq_true] at h
  obtain ⟨⟨⟨h1, h2⟩, h3⟩, h4⟩ := h
  refine ⟨⟨fun w => ?_, fun w hw => ?_⟩, h3, fun v w => ?_⟩
  · exact beq_iff_eq.mp (h1 w (by cases w <;> decide))
  · exact h2 w (by cases w <;> first | decide | exact absurd rfl hw)
  · exact h4 v (by cases v <;> decide) w (by cases w <;> decide)

theorem WindowMap.base_even {m : WindowMap} (h : m.placed = true) (w : Window) : m.base w % 2 = 0 :=
  (placed_iff h).1.1 w

/-- Every window but BOOK lies in SRAM. -/
theorem WindowMap.base_sram {m : WindowMap} (h : m.placed = true) {w : Window} (hw : w ≠ .book) :
    0x800000 ≤ m.base w := by
  have h2 := (placed_iff h).1.2 w hw
  simp only [WindowMap.within, Bool.and_eq_true, decide_eq_true_eq] at h2
  exact h2.1

theorem WindowMap.base_top {m : WindowMap} (h : m.placed = true) (w : Window) :
    m.base w + 2 * w.words ≤ 0x1000000 := by
  by_cases hw : w = .book
  · subst hw
    have h3 := (placed_iff h).2.1
    simp only [WindowMap.within, Bool.and_eq_true, decide_eq_true_eq] at h3
    omega
  · have h2 := (placed_iff h).1.2 w hw
    simp only [WindowMap.within, Bool.and_eq_true, decide_eq_true_eq] at h2
    omega

theorem WindowMap.apart {m : WindowMap} (h : m.placed = true) {v w : Window} (hv : v ≠ w) :
    m.base v + 2 * v.words ≤ m.base w ∨ m.base w + 2 * w.words ≤ m.base v := by
  have h4 := (placed_iff h).2.2 v w
  simpa [hv, WindowMap.disjoint] using h4

theorem two_mul_wordAddr {a : Nat} (h2 : a % 2 = 0) (ha : a < 0x1000000) :
    2 * (wordAddr a).toNat = a := by
  unfold wordAddr
  rw [BitVec.toNat_ofNat]
  omega

theorem WindowMap.offset_own {m : WindowMap} (h : m.placed = true) {w : Window} {k : Nat}
    (hk : k < w.words) : m.offset w (wordAddr (m.base w + 2 * k)) = some k := by
  have he := base_even h w
  have ht := base_top h w
  unfold WindowMap.offset
  rw [two_mul_wordAddr (by omega) (by omega)]
  rw [if_pos ⟨by omega, by omega⟩]
  congr 1
  omega

theorem WindowMap.offset_other {m : WindowMap} (h : m.placed = true) {v w : Window} (hv : v ≠ w)
    {k : Nat} (hk : k < w.words) : m.offset v (wordAddr (m.base w + 2 * k)) = none := by
  have he := base_even h w
  have ht := base_top h w
  have ha := apart h hv
  unfold WindowMap.offset
  rw [two_mul_wordAddr (by omega) (by omega)]
  rw [if_neg (by omega)]

/-- A word of a window is found at its place. -/
theorem WindowMap.place_at {m : WindowMap} (h : m.placed = true) {w : Window} {k : Nat}
    (hk : k < w.words) : m.place (wordAddr (m.base w + 2 * k)) = some (w, k) := by
  have own := offset_own h hk
  unfold WindowMap.place Window.list
  cases w <;> simp only [List.findSome?_cons, own, Option.map_some] <;>
    repeat' (rw [offset_other h (by decide) hk]; simp only [Option.map_none])

/-! ## Named cells -/

theorem Cell.place_lt (c : Cell) : c.place.2 < c.place.1.words := by cases c <;> decide

theorem Cell.place_sram (c : Cell) : c.place.1 ≠ .book := by cases c <;> decide

theorem cellAt_place (c : Cell) : cellAt c.place = some c := by cases c <;> decide

theorem State.cellByte_eq {s : State} {m : WindowMap} (h : s.Runs m) (c : Cell) :
    s.cellByte c = m.base c.place.1 + 2 * c.place.2 := by
  unfold State.cellByte State.at State.base
  rw [h.2.2.1]

theorem State.placeOf_cell {s : State} {m : WindowMap} (h : s.Runs m) (c : Cell) :
    s.placeOf (s.cellAddr c) = some c.place := by
  unfold State.placeOf State.cellAddr
  have e := s.cellByte_eq h c
  unfold State.cellByte at e
  rw [h.2.2.1, e]
  exact WindowMap.place_at h.2.2.2 c.place_lt

theorem State.cellAddr_toNat {s : State} {m : WindowMap} (h : s.Runs m) (c : Cell) :
    2 * (s.cellAddr c).toNat = s.cellByte c := by
  have e := s.cellByte_eq h c
  have he := WindowMap.base_even h.2.2.2 c.place.1
  have ht := WindowMap.base_top h.2.2.2 c.place.1
  have hp := c.place_lt
  unfold State.cellAddr
  show 2 * (wordAddr (s.cellByte c)).toNat = s.cellByte c
  exact two_mul_wordAddr (by omega) (by omega)

theorem State.flashHolds_cell {s : State} {m : WindowMap} (h : s.Runs m) (c : Cell) :
    s.flashHolds (s.cellAddr c) = false := by
  have e := s.cellByte_eq h c
  have hb := WindowMap.base_sram h.2.2.2 c.place_sram
  unfold State.flashHolds
  rw [s.cellAddr_toNat h]
  have : ¬ s.cellByte c < 0x800000 := by omega
  simp [this]

/-- The state in which a unit takes a request written to a command cell: the word has reached memory, the
access is ended READY, and the group is in the pending set (R29). -/
def State.accepted (s : State) (c : Cell) (v : Word) : State :=
  ((s.unlatch (s.cellAddr c)).writeThrough (s.cellAddr c) true true v).oweAt c.place

/-- A word write to a command cell that is taken (R29). -/
theorem State.hostCell_takes {s : State} {c : Cell} (h : s.Takes c) (v : Word) :
    s.hostCell c v = s.rowTo ((s.accepted c v).hand c v) [] 1 := by
  obtain ⟨⟨m, hr⟩, hk, hg⟩ := h
  have hmode := hr.1
  have hphase := hr.2.1
  have hmap := hr.2.2.1
  have hsram := c.place_sram
  unfold State.hostCell State.host
  rw [if_neg (by rw [hphase]; decide)]
  refine congrArg (fun t => s.rowTo t [] 1) ?_
  unfold State.hostInMode
  rw [hmode]
  show State.hostRunning s _ = _
  unfold State.hostRunning someEnable
  rw [if_pos (by rfl)]
  show State.runningWrite s (s.cellAddr c) true true v = _
  unfold State.runningWrite
  rw [s.flashHolds_cell hr c]
  rw [if_neg (by decide)]
  rw [s.placeOf_cell hr c]
  show (s.unlatch (s.cellAddr c)).writePlace c.place (s.cellAddr c) true true v = _
  unfold State.writePlace
  rw [if_neg hsram]
  have hkind : (s.unlatch (s.cellAddr c)).kindAt c.place = .command := by
    unfold State.kindAt; rw [cellAt_place]; exact hk
  rw [hkind]
  show State.writeCommand _ _ _ _ _ _ = _
  unfold State.writeCommand
  rw [if_neg (by decide), cellAt_place]
  have howed : (s.unlatch (s.cellAddr c)).path.owed = s.path.owed := by
    unfold State.unlatch; split <;> (try split) <;> rfl
  rw [if_neg]
  · rfl
  · rcases hg with rfl | hg
    · simp
    · unfold State.pendingAt
      rw [howed]
      cases hcg : groupAt c.place with
      | none => simp
      | some g => simp [hg g hcg]

/-! ## What stands after a request was taken -/

theorem State.oweAt_path_mem (s : State) (p : Window × Nat) : (s.oweAt p).mem = s.mem := by
  unfold State.oweAt; split <;> rfl

/-- Only memory, the record of what was driven and the path unit change. -/
theorem State.accepted_eq (s : State) (c : Cell) (v : Word) :
    ∃ p m d, s.accepted c v = { s with path := p, mem := m, driven := d }
      ∧ m = s.mem.writeWord (2 * (s.cellAddr c).toNat) v
      ∧ p.mode = s.path.mode ∧ p.map = s.path.map
      ∧ p.reply = { term := .ready, data := .none } := by
  have hmerge (x y : Word) : mergeBytes x y true true = y := Memory.mkWord_bytes y
  refine ⟨(s.accepted c v).path, (s.accepted c v).mem, (s.accepted c v).driven, ?_, ?_, ?_⟩
  · unfold State.accepted State.oweAt State.unlatch
    split <;> split <;> (try split) <;> rfl
  · unfold State.accepted
    rw [State.oweAt_path_mem]
    unfold State.writeThrough
    rw [State.replyWith_mem, State.putBytes_mem, hmerge, State.hostGrant_mem, State.unlatch_mem]
  · unfold State.accepted State.oweAt State.unlatch
    split <;> split <;> (try split) <;> exact ⟨rfl, rfl, rfl⟩

end Sys2Proof.Machine
end

