-- ==== Sys2Proof/Laws/Closes.lean ====
section
/-! SUPPORT. What handing a close over, and a period close that falls due, do to the cash unit (R132, R146). -/

namespace Sys2Proof.Machine

/-- What a close handed over does to the cash unit. -/
theorem State.handClose_cash (s : State) : s.handClose.cash = s.closeHanded s.sale := by
  unfold State.handClose State.closeHanded
  by_cases h : s.cash.close.isNone = true
  · rw [if_pos h, if_pos h]
    unfold State.formSaleClose State.armIntent State.putCell
    simp; rfl
  · rw [if_neg h, if_neg h, State.saleCloseWaits_eq]
    split <;> rfl

/-- A period close that falls due keeps a place for a sale's close still to come exactly where R146 has it wait. -/
theorem State.dueWork_waits (s : State) : s.cash.waiting ++ s.dueWork = s.duesWaiting := by
  unfold State.dueWork State.duesWaiting State.keepsPlace State.saleCloseComes
  cases hc : s.cash.close with
  | none => simp
  | some c => simp [and_assoc, apply_ite (s.cash.waiting ++ ·)]

/-- What a period close that falls due does to the cash unit. -/
theorem State.periodDue_cash (s : State) :
    s.periodDue.cash = { s.cash with closeOwed := true, waiting := s.duesWaiting } := by
  rw [← State.dueWork_waits]; rfl

end Sys2Proof.Machine
end

