-- ==== Sys2Proof/Laws/Faults.lean ====
section
/-! SUPPORT. What raising a source or a fault comes to when it neither voids the sale nor moves INHIBIT:
only the fault unit and the ready order change (R36, R153 to R156, R167). -/

namespace Sys2Proof.Machine

/-- The state differs in the fault unit and in the ready order, which has grown at its end, at most. -/
def State.FaultOnly (s t : State) : Prop :=
  ∃ f r, t = { s with fault := f, path := { s.path with ready := s.path.ready ++ r } }

theorem State.FaultOnly.refl (s : State) : s.FaultOnly s := ⟨s.fault, [], by simp⟩

theorem State.FaultOnly.trans {s t u : State} (h : s.FaultOnly t) (k : t.FaultOnly u) : s.FaultOnly u := by
  obtain ⟨f, r, rfl⟩ := h
  obtain ⟨g, q, rfl⟩ := k
  exact ⟨g, r ++ q, by simp [List.append_assoc]⟩

theorem State.FaultOnly.fault {s t : State} (h : s.FaultOnly t) (f : FaultUnit) :
    s.FaultOnly { t with fault := f } := by
  obtain ⟨g, r, rfl⟩ := h
  exact ⟨f, r, rfl⟩

/-- Asking for an image changes the ready order alone. -/
theorem State.rewrite_ready (s : State) (i : Image) :
    ∃ r, s.rewrite i = { s with path := { s.path with ready := s.path.ready ++ r } } := by
  unfold State.rewrite
  split
  · exact ⟨[], by simp⟩
  · exact ⟨[.image i], rfl⟩

theorem State.rewrite_faultOnly (s : State) (i : Image) : s.FaultOnly (s.rewrite i) := by
  obtain ⟨r, h⟩ := s.rewrite_ready i
  exact ⟨s.fault, r, h⟩

/-- Raising a source (R167). -/
theorem State.raiseSource_faultOnly (s : State) (x : Source) (n : Word) :
    s.FaultOnly (s.raiseSource x n) := by
  unfold State.raiseSource State.peekIfMoved
  dsimp only
  split
  · exact ((FaultOnly.refl s).fault _).trans (rewrite_faultOnly _ _)
  · exact (((FaultOnly.refl s).fault _).trans (rewrite_faultOnly _ _)).trans (rewrite_faultOnly _ _)

theorem State.attend_faultOnly (s : State) (c : FaultClass) (d : Bool) (x : SaleState) (v : Bool) :
    s.FaultOnly (s.attend c d x v) := by
  unfold State.attend
  split
  · exact raiseSource_faultOnly _ _ _
  · dsimp only
    split
    · exact (raiseSource_faultOnly _ _ _).trans (raiseSource_faultOnly _ _ _)
    · exact raiseSource_faultOnly _ _ _

/-- A condition that neither voids nor blocks COIN, or that is added outside an OPEN sale. -/
theorem State.addCondition_faultOnly (s : State) (c : Condition)
    (h : s.sale.state ≠ .opened ∨ (c.voids = none ∧ c.blocksCoin = false)) :
    s.FaultOnly (s.addCondition c).1 := by
  unfold State.addCondition
  split
  · exact FaultOnly.refl s
  · dsimp only
    have hr := ((FaultOnly.refl s).fault { s.fault with stop := s.fault.stop ++ [c] }).trans
      (rewrite_faultOnly _ .stopSet)
    split
    · rename_i ho
      rcases h with h | ⟨h1, h2⟩
      · rw [State.rewrite_sale] at ho; exact absurd ho h
      · rw [h1]; dsimp only; rw [h2]; exact hr
    · exact hr

theorem State.storeFault_faultOnly (s : State) (r : FaultRecord) : s.FaultOnly (s.storeFault r) := by
  unfold State.storeFault
  split <;> exact (FaultOnly.refl s).fault _

theorem State.FaultOnly.sale_eq {s t : State} (h : s.FaultOnly t) : t.sale = s.sale := by
  obtain ⟨f, r, rfl⟩ := h; rfl

/-- Raising a fault whose class has no condition that voids the sale or blocks COIN, or outside an OPEN
sale (R153 to R156). -/
theorem State.raiseSub_faultOnly (s : State) (c : FaultClass) (sub : Byte) (d : Word)
    (h : s.sale.state ≠ .opened ∨ ∀ k, c.condition = some k → k.voids = none ∧ k.blocksCoin = false) :
    s.FaultOnly (s.raiseSub c sub d) := by
  unfold State.raiseSub
  refine (storeFault_faultOnly s (s.faultRecord c sub d)).trans ?_
  have hs := (storeFault_faultOnly s (s.faultRecord c sub d)).sale_eq
  generalize s.storeFault (s.faultRecord c sub d) = t at hs
  unfold State.applyRoute
  dsimp only
  split
  · exact FaultOnly.refl t
  · exact attend_faultOnly _ _ _ _ _
  · split
    · rename_i k hk
      refine (addCondition_faultOnly t k ?_).trans (attend_faultOnly _ _ _ _ _)
      rcases h with h | h
      · exact .inl (by rw [hs]; exact h)
      · exact .inr (h k hk)
    · exact attend_faultOnly _ _ _ _ _

/-! ## What is recorded (R153, R154) -/

@[simp] theorem State.raiseSource_list (s : State) (x : Source) (n : Word) :
    (s.raiseSource x n).fault.list = s.fault.list := by
  unfold State.raiseSource State.peekIfMoved State.rewrite
  dsimp only
  split <;> split <;> (try split) <;> rfl

@[simp] theorem State.raiseSource_seq (s : State) (x : Source) (n : Word) :
    (s.raiseSource x n).fault.seq = s.fault.seq := by
  unfold State.raiseSource State.peekIfMoved State.rewrite
  dsimp only
  split <;> split <;> (try split) <;> rfl

@[simp] theorem State.attend_list (s : State) (c : FaultClass) (d : Bool) (x : SaleState) (v : Bool) :
    (s.attend c d x v).fault.list = s.fault.list := by
  unfold State.attend
  split
  · simp
  · dsimp only; split <;> simp

@[simp] theorem State.attend_seq (s : State) (c : FaultClass) (d : Bool) (x : SaleState) (v : Bool) :
    (s.attend c d x v).fault.seq = s.fault.seq := by
  unfold State.attend
  split
  · simp
  · dsimp only; split <;> simp

@[simp] theorem State.addCondition_list (s : State) (c : Condition) :
    (s.addCondition c).1.fault.list = s.fault.list := by
  unfold State.addCondition State.rewrite
  dsimp only
  repeat' split
  all_goals first | rfl | simp

@[simp] theorem State.addCondition_seq (s : State) (c : Condition) :
    (s.addCondition c).1.fault.seq = s.fault.seq := by
  unfold State.addCondition State.rewrite
  dsimp only
  repeat' split
  all_goals first | rfl | simp

theorem State.applyRoute_list (s : State) (c : FaultClass) (x : SaleState) :
    (s.applyRoute c x).fault.list = s.fault.list ∧ (s.applyRoute c x).fault.seq = s.fault.seq := by
  unfold State.applyRoute
  dsimp only
  split
  · exact ⟨rfl, rfl⟩
  · simp
  · split <;> simp

/-- Every raising is recorded, or counted on the newest record (R153, R154). -/
theorem State.raiseSub_recorded (s : State) (c : FaultClass) (sub : Byte) (d : Word) :
    s.Recorded (s.raiseSub c sub d) c sub d := by
  unfold State.Recorded State.raiseSub
  obtain ⟨h1, h2⟩ := (s.storeFault (s.faultRecord c sub d)).applyRoute_list c s.sale.state
  rw [h1, h2]
  unfold State.storeFault
  split <;> exact ⟨rfl, rfl⟩

end Sys2Proof.Machine
end

