-- ==== Sys2Proof/Laws/Images.lean ====
section
/-! SUPPORT. Images follow the state behind them: what asks for a rewrite keeps the relation `State.Asks`, which
says that a changed image is in the ready order (R36). -/

namespace Sys2Proof.Machine

/-- Images that wait still wait, and an image whose words differ waits. -/
def State.Asks (s t : State) : Prop :=
  (∀ i, .image i ∈ s.path.ready → .image i ∈ t.path.ready)
    ∧ ∀ i, t.imageWords i ≠ s.imageWords i → .image i ∈ t.path.ready

theorem State.Asks.refl (s : State) : s.Asks s := ⟨fun _ h => h, fun _ h => absurd rfl h⟩

theorem State.Asks.trans {s t u : State} (h : s.Asks t) (k : t.Asks u) : s.Asks u := by
  refine ⟨fun i m => k.1 i (h.1 i m), fun i d => ?_⟩
  by_cases e : u.imageWords i = t.imageWords i
  · exact k.1 i (h.2 i (e ▸ d))
  · exact k.2 i e

/-- A step that leaves the words of the images as they are. -/
theorem State.Asks.of_words {s t : State} (r : ∀ i, .image i ∈ s.path.ready → .image i ∈ t.path.ready)
    (w : ∀ i, t.imageWords i = s.imageWords i) : s.Asks t :=
  ⟨r, fun i d => absurd (w i) d⟩

/-- The words of the images stand in the fault unit and in the levels that LINES shows. -/
theorem State.imageWords_of_same {s t : State} (f : t.fault = s.fault) (l : t.shownLevels = s.shownLevels)
    (i : Image) : t.imageWords i = s.imageWords i := by
  cases i <;> simp [State.imageWords, State.vector, f, l]

/-- An image asked for waits, and every image that waited does. -/
theorem State.rewrite_waits (s : State) (i : Image) : .image i ∈ (s.rewrite i).path.ready := by
  unfold State.rewrite
  split <;> simp_all

theorem State.rewrite_waiting (s : State) (i : Image) {x : ReadyItem} (h : x ∈ s.path.ready) :
    x ∈ (s.rewrite i).path.ready := by
  unfold State.rewrite
  split <;> simp [h]

theorem State.rewrite_imageWords (s : State) (i j : Image) : (s.rewrite i).imageWords j = s.imageWords j := by
  unfold State.rewrite
  split <;> cases j <;> rfl

theorem State.rewrite_vector (s : State) (i : Image) : (s.rewrite i).vector = s.vector := by
  unfold State.rewrite
  split <;> rfl

theorem State.rewrite_asks (s : State) (i : Image) : s.Asks (s.rewrite i) :=
  .of_words (fun _ => s.rewrite_waiting i) (s.rewrite_imageWords i)

/-- LINES follows the levels it shows (R149): of a step that changes no image but LINES. -/
theorem State.linesIfMoved_asks {s t : State} (r : ∀ i, .image i ∈ s.path.ready → .image i ∈ t.path.ready)
    (f : t.fault = s.fault) : s.Asks (t.linesIfMoved s.shownLevels) := by
  unfold State.linesIfMoved
  split
  · next e => exact .of_words r (imageWords_of_same f e)
  · refine ⟨fun i m => t.rewrite_waiting .lines (r i m), fun i d => ?_⟩
    rw [t.rewrite_imageWords] at d
    cases i with
    | lines => exact t.rewrite_waits .lines
    | _ => exact absurd (by simp [State.imageWords, State.vector, f]) d

/-- A line that settles asks for LINES (R136, R149). -/
theorem State.settleLine_asks (s : State) (l : Line) : s.Asks (s.settleLine l) :=
  linesIfMoved_asks (fun _ h => h) rfl

theorem State.settleAll_asks (s : State) : s.Asks s.settleAll := linesIfMoved_asks (fun _ h => h) rfl

/-- A raised source asks for its NOTICE word, and for ATTN_PEEK when the vector has changed (R167, R169). -/
theorem State.raiseSource_asks (s : State) (x : Source) (n : Word) : s.Asks (s.raiseSource x n) := by
  unfold State.raiseSource
  dsimp only
  generalize hq : s.fault.sources.set x _ = q
  have others : ∀ y, y ≠ x → q.get y = s.fault.sources.get y := by
    intro y h
    subst hq
    cases x <;> cases y <;> first | rfl | exact absurd rfl h
  unfold State.peekIfMoved
  split
  · next e =>
    refine ⟨fun i m => rewrite_waiting _ _ m, fun i d => ?_⟩
    rw [rewrite_imageWords] at d
    cases i with
    | notice y =>
      by_cases h : y = x
      · exact h ▸ rewrite_waits _ _
      · exact absurd (by simp [State.imageWords, others y h]) d
    | peek => exact absurd (congrArg (fun v => [v]) ((rewrite_vector _ _).symm.trans e)) d
    | take | stopSet | lines | routes => exact absurd rfl d
  · refine ⟨fun i m => rewrite_waiting _ _ (rewrite_waiting _ _ m), fun i d => ?_⟩
    rw [rewrite_imageWords, rewrite_imageWords] at d
    cases i with
    | notice y =>
      by_cases h : y = x
      · exact rewrite_waiting _ _ (h ▸ rewrite_waits _ _)
      · exact absurd (by simp [State.imageWords, others y h]) d
    | peek => exact rewrite_waits _ _
    | take | stopSet | lines | routes => exact absurd rfl d

end Sys2Proof.Machine
end

