-- ==== Sys2Proof/Laws/Writes.lean ====
section
/-! SUPPORT. The word writes of a row and of a part of a row: the memory they make says where memory is unchanged,
and the writes of two parts follow each other. -/

namespace Sys2Proof.Machine

namespace Memory

theorem writeAll_append (m : Memory) (ws vs : List (Nat × Word)) :
    m.writeAll (ws ++ vs) = (m.writeAll ws).writeAll vs := by
  induction ws generalizing m with
  | nil => rfl
  | cons w ws ih => exact ih (m.writeWord w.1 w.2)

theorem read_writeAll_other {m : Memory} (h : Memory.wf m) {ws : List (Nat × Word)} {a : Nat}
    (ha : ∀ w ∈ ws, a ≠ w.1 ∧ a ≠ w.1 + 1) : (m.writeAll ws).read a = m.read a := by
  induction ws generalizing m with
  | nil => rfl
  | cons w ws ih =>
    have hw := ha w (List.mem_cons_self ..)
    have hr : (m.writeWord w.1 w.2).read a = m.read a := by
      rw [read_writeWord h, if_neg hw.1, if_neg hw.2]
    exact (ih (wf_writeWord h w.1 w.2) fun x hx => ha x (List.mem_cons_of_mem w hx)).trans hr

end Memory

/-- The words that memory is made of say where it is unchanged. -/
theorem State.stored_of_mem {s t : State} {ws : List (Nat × Word)} (h : t.mem = s.mem.writeAll ws) :
    s.Stored t ws :=
  ⟨h, fun hs a ha => by rw [h]; exact Memory.read_writeAll_other hs ha⟩

/-- The writes of two parts of a row are those of the first, then those of the second. -/
theorem State.WroteMore.trans {s t u : State} {ws vs : List (Nat × Word)} (h : s.WroteMore t ws)
    (k : t.WroteMore u vs) : s.WroteMore u (ws ++ vs) :=
  ⟨by rw [k.1, h.1, List.reverse_append, List.append_assoc],
    State.stored_of_mem (by rw [k.2.1, h.2.1, Memory.writeAll_append])⟩

/-- A part of a row that starts with nothing driven is all that the row writes. -/
theorem State.wroteMore_iff_wroteOnly {s t : State} {ws : List (Nat × Word)} (h : s.driven = []) :
    s.WroteMore t ws ↔ s.WroteOnly t ws := by
  unfold State.WroteMore State.WroteOnly
  rw [h, List.append_nil, List.reverse_eq_iff]

end Sys2Proof.Machine
end

