-- ==== Sys2Proof/Tests/Slice0.lean ====
section
/-! SUPPORT. The model's own tests: the well-formedness smoke tests, the check word, and for every statement
that has hypotheses concrete states that meet them, clause by clause, at the values where clauses meet. -/

namespace Sys2Proof.Tests

-- One thread: the tests are one command after another, so no pool of waiting threads builds up.
set_option Elab.async false

open Sys2Proof Sys2Proof.Machine

/-! ## Well-formedness: each check refuses a term -/

theorem test_illFormed_accesses :
    (Instr.heldRead 0 false false).wellFormed = false
    ∧ (Instr.delayedReadRepeat 0 false false).wellFormed = false
    ∧ (Instr.inputCellWrite 0 false false 0).wellFormed = false
    ∧ (Instr.permitNo true false false 0).wellFormed = false
    ∧ (Instr.timeLo false false 0).wellFormed = false
    ∧ (Instr.jexportLow false false 0).wellFormed = false
    ∧ (Instr.ownedCellWrite 0 false false 0).wellFormed = false
    ∧ (Instr.bookWindowWrite 0 false false 0).wellFormed = false
    ∧ (Instr.attnTake false false).wellFormed = false := by decide

theorem test_illFormed_requests :
    (Instr.saleCmdUnknown 4).wellFormed = false ∧ (Instr.permitReqUnknown 2).wellFormed = false
    ∧ (Instr.serviceCmdUnknown 0x0A03).wellFormed = false
    ∧ (Instr.collectCmdUnknown 2).wellFormed = false ∧ (Instr.bookCmdUnknown 1).wellFormed = false
    ∧ (Instr.faultCmdUnknown 1).wellFormed = false ∧ (Instr.report 0).wellFormed = false
    ∧ (Instr.report 256).wellFormed = false ∧ (Instr.reportBadCode 255).wellFormed = false := by decide

theorem test_wellFormed_requests :
    (Instr.saleCmdUnknown 0).wellFormed = true ∧ (Instr.saleCmdUnknown 5).wellFormed = true
    ∧ (Instr.permitReqUnknown 3).wellFormed = true ∧ (Instr.serviceCmdUnknown 0x0804).wellFormed = true
    ∧ (Instr.collectCmdUnknown 3).wellFormed = true ∧ (Instr.bookCmdUnknown 5).wellFormed = true
    ∧ (Instr.faultCmdUnknown 0).wellFormed = true ∧ (Instr.report 1).wellFormed = true
    ∧ (Instr.report 255).wellFormed = true ∧ (Instr.reportBadCode 256).wellFormed = true := by decide

/-- No row of the table gives bits. -/
theorem test_noWordSpellsACommand : decodeTableWord 16 1 = none := by decide

/-- The check word over the bytes of "12345678" is that of the CRC with polynomial 8005h, preset FFFFh, most
significant bit first. -/
theorem test_crc : crc [0x3132, 0x3334, 0x3536, 0x3738] = 0x972D := by decide +kernel

/-! ## A small part in RUNNING -/

/-- A window map that the placement checks pass. -/
def layout : WindowMap :=
  { sale := 0x800000, control := 0x800100, cash := 0x810000, roll := 0x820000, book := 0 }

theorem test_layoutPlaced : layout.placed = true := by decide +kernel

/-- A source that is enabled. -/
def enabled : SourceRegs := { SourceRegs.reset with enabled := true }

/-- Routes: STOP for every class that may have it, delegated for none. -/
def routes : List RouteEntry := List.replicate 16 { route := .stop, delegate := false }

/-- A part in RUNNING with nothing pending and the box present. -/
def sample : State :=
  { State.reset with
    path := { PathUnit.reset with mode := .running, map := some layout }
    cfg := { CfgRegs.reset with
             discardMs := 8, debounceMs := 20, flashWaitMs := 50, denoms := #v[5, 10, 20, 50, 100, 200, 0, 0]
             escrowCap := 2, capacity := 200, nearPercent := 80, authTime := 2, idleLimit := 3
             probeLimit := 2, zone := 7 }
    fault := { FaultUnit.reset with
               routes := routes
               sources := { FaultUnit.reset.sources with fault := enabled, cash := enabled } }
    time := { minute := 2000000, timeSet := true, low := 0, timeHi := 0 }
    start := { phase := .done, fbusyLimit := none }
    cash := { CashUnit.reset with nextSeq := 1000, exportMark := 900, pnext := 4, pexport := 1 }
    lines := { door := { raw := false, level := some false, timer := none }
               box := { raw := true, level := some true, timer := none }
               key := { raw := true, level := some true, timer := none }
               settleLimit := none } }

/-- The sample with the sale in a state. -/
def inState (x : SaleState) : State := { sample with sale.state := x, sale.number := 1000 }

/-- The sample with an OPEN sale. -/
def selling : State := inState .opened

/-- The sample with a stop set. -/
def stopped (s : State) (cs : List Condition) : State := { s with fault.stop := cs }

/-- The state after a command. -/
def after (c : Instr) (s : State) : State :=
  match exec c s with
  | .next t => t
  | _ => s

/-- What makes a write to a command cell taken, with the sample's map. -/
abbrev Ready (s : State) (c : Cell) : Prop :=
  s.path.mode = .running ∧ s.start.phase = .done ∧ s.path.map = some layout ∧ c.kind = .command
    ∧ (c = .permitReq ∨ ∀ g ∈ c.group.toList, g ∉ s.path.owed)

theorem runs_sample (s : State)
    (h : s.path.mode = .running ∧ s.start.phase = .done ∧ s.path.map = some layout) : s.Runs layout :=
  ⟨h.1, h.2.1, h.2.2, test_layoutPlaced⟩

theorem takes_of_ready (s : State) (c : Cell) (h : Ready s c) : s.Takes c :=
  ⟨⟨layout, runs_sample s ⟨h.1, h.2.1, h.2.2.1⟩⟩, h.2.2.2.1,
   h.2.2.2.2.imp id fun k g e => k g (by simp [e])⟩

theorem test_everyCommandCellTaken :
    ∀ c ∈ Cell.list, c.kind = .command → Ready sample c ∧ Ready selling c := by decide +kernel

/-! ## The machine -/

theorem test_invariantsHoldSomewhere :
    State.reset.Canonical ∧ (∃ t, step State.reset = .next t)
    ∧ State.reset.Bounded ∧ State.reset.pending = [] := by
  refine ⟨?_, ⟨_, rfl⟩, ?_, rfl⟩
  · show Memory.wf []
    decide
  · show _ ∧ _
    decide

/-- A command that none of the exceptions names answers a next state. -/
theorem test_drivenWritesHyps : ∃ t, exec .minuteMark sample = .next t := ⟨_, rfl⟩

/-! ## The sale unit -/

/-- Two free slots, one, none. -/
def slotsLeft (n : Nat) : State := { sample with cash.exportMark := BitVec.ofNat 32 (487 + n) }

theorem test_open_accepted :
    Ready (slotsLeft 1) .saleCmd ∧ (slotsLeft 1).sale.state = .idle ∧ (slotsLeft 1).tariff.change = none
    ∧ (slotsLeft 1).freeSlots = 1 ∧ (slotsLeft 2).freeSlots = 2
    ∧ (after .openSale (slotsLeft 1)).sale.state = .opened
    ∧ (after .openSale (slotsLeft 1)).fault.list.length = 1
    ∧ (after .openSale (slotsLeft 2)).fault.list.length = 0
    ∧ (after .openSale (slotsLeft 2)).sale.number = 1000 := by decide +kernel

theorem test_open_refused :
    (slotsLeft 0).freeSlots = 0 ∧ (after .openSale (slotsLeft 0)).sale.saleCmd = 19
    ∧ (∃ c ∈ (stopped (slotsLeft 0) [.journalFull, .timeUnset]).fault.stop,
        c.blocksOpen = true ∧ c ≠ .journalFull)
    ∧ (after .openSale (stopped (slotsLeft 0) [.journalFull, .timeUnset])).sale.saleCmd = 18
    ∧ (after .openSale { sample with tariff.change := some .toFill }).sale.waitOpen = true := by
  decide +kernel

theorem test_saleRequests_outOfTurn :
    (after .openSale selling).sale.saleCmd = 17 ∧ (after .commit sample).sale.saleCmd = 17
    ∧ (after .abandon sample).sale.saleCmd = 17 ∧ (after .clear selling).sale.saleCmd = 17
    ∧ (after .clear sample).sale.saleCmd = 17 ∧ (after (.saleCmdUnknown 5) selling).sale.saleCmd = 24
    ∧ Ready (inState .committing) .saleCmd ∧ Ready (inState .voiding) .coinIn
    ∧ Ready (inState .voiding) .cardIn
    ∧ (after (.coinIn 2) (inState .voiding)).sale.held = [.coin 2] := by decide +kernel

/-- A COMMIT that waits, with this many pence on the card. -/
def waiting (card : Word) : State :=
  { selling with sale.waitCommit := true, sale.cardPence := card, path.owed := [.saleResp] }

/-- A permit in use. -/
def permit : PermitInUse := { number := 0x405, category := 1, discount := 100, bucket := 5, slot := 2 }

/-- A book cache with one day type: CHARGED at 100 pence for 60 minutes, residents free, then FREE from 1080. -/
def book : BookCache :=
  { id := 5, effective := 0
    zone :=
      { defaultRounding := .down, maxStay := 120, minCharge := 30, weekdays := [0, 0, 0, 0, 0, 0, 0]
        exceptions := []
        dayTypes :=
          [[{ start := 0, kind := .charged, rounding := .fromBook, rate := 100, unit := 60, resident := 100
              visitor := 50, trade := 255 },
            { start := 1080, kind := .free, rounding := .down, rate := 0, unit := 0, resident := 0
              visitor := 0, trade := 0 },
            { start := 1200, kind := .noParking, rounding := .down, rate := 0, unit := 0, resident := 0
              visitor := 0, trade := 0 }]] } }

theorem test_commit_waitsAndIsRefused :
    (after .commit selling).sale.waitCommit = true
    ∧ (waiting 0).busy .price = false ∧ (waiting 0).permit.search = none ∧ (waiting 0).sale.tendered = 0
    ∧ (after .commitWaitEnd (waiting 0)).sale.saleCmd = 20
    ∧ (after .commitWaitEnd { waiting 1 with sale.price.flags := 16 }).sale.saleCmd = 21
    ∧ (after .commitWaitEnd
        { stopped (waiting 5) [.boxAbsent] with sale.escrow := #v[1, 0, 0, 0, 0, 0, 0, 0] }).sale.saleCmd
        = 23 := by decide +kernel

/-- A permit whose effective rate is 0 at the priced minute lets a COMMIT with nothing tendered pass. -/
theorem test_commit_freeByPermit :
    (bandAt (some book) 0).band.chargedFree (some permit.category) = true
    ∧ { waiting 0 with sale.permit := some permit, tariff.cache := some book }.commitRefusal = none
    ∧ (after .commitWaitEnd { waiting 0 with sale.permit := some permit, tariff.cache := some book }).permit.lock.holder
        = some .commitStep := by decide +kernel

theorem test_commit_passes :
    (waiting 1).commitRefusal = none ∧ (after .commitWaitEnd (waiting 1)).sale.state = .committing
    ∧ (after .commitWaitEnd (waiting 1)).cash.close.isSome = true
    ∧ (after .commitWaitEnd
        { waiting 1 with sale.permit := some permit, permit.lock.holder := some .search }).permit.lock.waiters
        = [.commitStep] := by decide +kernel

theorem test_abandonAndClear :
    (after .abandon selling).sale.state = .voiding ∧ (after .clear (inState .closed)).sale.state = .idle
    ∧ (after .clear (inState .void)).sale.number = 1000 := by decide +kernel

/-- A void with a price run and a search in flight reports PRICE and PERMIT_RESP. -/
theorem test_abandonReports :
    let s := { selling with
      path.owed := [.price, .permitResp]
      tariff.engine.run := some (PriceRun.ofRequest none { t0 := 0, tendered := 0, permit := none })
      permit.search := some
        { number := 1, minute := 0, today := 0, phase := .seek, bucket := 1, examined := 1, slot := 0
          overflow := false } }
    s.busy .price = true ∧ .group .price ∈ (after .abandon s).path.ready
    ∧ .group .permitResp ∈ (after .abandon s).path.ready := by decide +kernel

theorem test_coins :
    (after (.coinIn 8) selling).sale.coinIn = 19 ∧ (after (.coinIn 7) selling).sale.coinIn = 19
    ∧ (after (.coinIn 5) sample).sale.coinIn = 18
    ∧ (after (.coinIn 5) { sample with cash.waiting := [.forcedEntry] }).cash.waiting
        = [.forcedEntry, .stray 5]
    ∧ (after (.coinIn 5) (stopped selling [.boxFull])).sale.coinIn = 17
    ∧ (after (.coinIn 5) { selling with sale.cardPence := 65336 }).sale.coinIn = 17
    ∧ (after (.coinIn 5) { selling with sale.cardPence := 65335 }).sale.coinIn = 16
    ∧ (after (.coinIn 5) { selling with sale.escrow := #v[1, 1, 0, 0, 0, 0, 0, 0] }).sale.coinIn = 17
    ∧ (after (.coinIn 5) { selling with sale.escrow := #v[1, 0, 0, 0, 0, 0, 0, 0] }).sale.inhibit = 1 := by
  decide +kernel

theorem test_cards :
    (after (.cardIn 0) sample).sale.cardIn = 18 ∧ (after (.cardIn 0) selling).sale.cardIn = 20
    ∧ (after (.cardIn 1) { selling with sale.cardPence := 65535 }).sale.cardIn = 21
    ∧ (after (.cardIn 1) { selling with sale.cardPence := 65534 }).sale.cardIn = 16 := by decide +kernel

/-! ## The path unit -/

/-- The word of the CHARGE cell, which PRICE owns. -/
def charge : BitVec 23 := wordAddr (0x800000 + 14)

/-- PRICE is in the pending set and the slot is as given. -/
def held (x : DelayedSlot) : State := { sample with path.owed := [.price], path.slot := x }

/-- A word read of the CHARGE cell, as the slot latches it. -/
def latched : Latched := { word := charge, size := .word, group := .price }

theorem test_unclaimedAccesses :
    sample.Runs layout ∧ layout.place (wordAddr 0x900000) = none
    ∧ sample.flashHolds (wordAddr 0x900000) = false ∧ layout.place charge = some (.sale, 7)
    ∧ cellAt (.sale, 7) ≠ some .attnTake ∧ groupAt (.sale, 7) = some .price ∧ Group.price ∉ sample.path.owed
    ∧ (after (.hostPassThrough
        { word := wordAddr 0x900000, hi := true, lo := false, data := some 0x1234 }) sample).driven
        = [(0x900000, 0x1200)]
    ∧ (after (.hostPassThrough
        { word := charge, hi := false, lo := false, data := none }) sample).path.reply.term = .ready :=
  ⟨runs_sample _ (by decide +kernel), by decide +kernel⟩

theorem test_heldReads :
    Group.price ∈ (held .empty).path.owed ∧ (held .empty).flashHolds charge = false
    ∧ (after (.heldRead charge true true) (held .empty)).path.slot = .waiting latched
    ∧ (after (.heldRead charge true false) (held (.waiting latched))).path.slot = .waiting latched
    ∧ ¬ (latched.word = charge ∧ latched.size = sizeOf true false)
    ∧ (after (.heldRead charge true false) (held (.complete latched 9 1))).path.reply.term = .retry := by
  decide +kernel

/-- The latched word read with another size, its group no longer pending (R38). -/
theorem test_latchedWord_otherSize :
    (after (.hostPassThrough { word := charge, hi := true, lo := false, data := none })
      { sample with path.slot := .complete latched 9 1 }).path.reply.term = .ready
    ∧ (after (.hostPassThrough { word := charge, hi := true, lo := false, data := none })
      { sample with path.slot := .complete latched 9 1 }).path.slot = .complete latched 9 1 := by decide +kernel

theorem test_theSlot :
    latched.word = charge ∧ latched.size = sizeOf true true
    ∧ (after (.delayedReadRepeat charge true true) (held (.waiting latched))).path.reply.term = .retry
    ∧ (after (.delayedReadRepeat charge true true) (held (.complete latched 9 0))).path.reply
        = { term := .ready, data := .word 9 }
    ∧ (after .staleRead (held (.complete latched 9 0))).path.slot = .empty
    ∧ (after .staleRead (held (.complete latched 9 1))).path.slot = .complete latched 9 1 := by
  decide +kernel

/-- Entries 3 and 4 are the part's; the head is 3. -/
def queued : State := { sample with permit.head := 3, permit.handed := 5, permit.tail := 5 }

theorem test_inputCells :
    (queued.permit.handed - queued.permit.head).toNat ≤ ((5 : BitVec 5) - queued.permit.head).toNat
    ∧ ¬ (queued.permit.handed - queued.permit.head).toNat ≤ ((4 : BitVec 5) - queued.permit.head).toNat
    ∧ (after (.inputCellWrite (wordAddr (queued.entryAddr 5 + 46)) true true 9) queued).path.reply.term = .ready
    ∧ (after (.inputCellWrite (wordAddr (queued.entryAddr 4)) true true 9) queued).path.reply.term = .error
    ∧ Memory.wf sample.mem ∧ (after (.permitNo true true false 0x1234) sample).permit.kept = 0x12000000
    ∧ (after (.timeLo true true 7) sample).time.low = 7
    ∧ Group.jexportResp ∉ sample.path.owed
    ∧ (after (.jexportLow true true 7) sample).cash.exportLow = 7 := by decide +kernel

theorem test_refusedWrites :
    sample.kindAt (.sale, 7) = .owned ∧ sample.kindAt (.sale, 0) = .command
    ∧ layout.place (wordAddr 0x800000) = some (.sale, 0)
    ∧ (after (.ownedCellWrite charge true true 1) sample).path.reply.term = .error
    ∧ (after (.ownedCellWrite (wordAddr 0x800000) true false 1) sample).path.reply.term = .error
    ∧ (after (.ownedCellWrite charge true true 1) sample).fault.list.length = 1 := by decide +kernel

/-- An install session OPEN on slot B. -/
def installing : State := { sample with tariff.session.state := .opened, tariff.session.slot := .b }

theorem test_bookWrites :
    layout.place (wordAddr 8194) = some (.book, 4097) ∧ layout.place (wordAddr 16382) = some (.book, 8191)
    ∧ (after (.bookWindowWrite (wordAddr 8194) true true 1) installing).path.reply.term = .ready
    ∧ (after (.bookWindowWrite (wordAddr 16382) true true 1) installing).path.reply.term = .ready
    ∧ (after (.bookWindowWrite (wordAddr 8194) true true 1) { installing with flash.fbusy := true }).flash
        = { sample.flash with fbusy := true }
    ∧ (after (.bookWindowWrite (wordAddr 8192) true true 1) installing).path.reply.term = .error
    ∧ (after (.bookWindowWrite (wordAddr 8190) true true 1) installing).path.reply.term = .error
    ∧ (after (.bookWindowWrite (wordAddr 8194) true true 1) sample).path.reply.term = .error := by
  decide +kernel

/-- A word read and a word write of a place in SRAM outside the windows. -/
def reading : Access := { word := wordAddr 0x900000, hi := true, lo := true, data := none }
def writing : Access := { reading with data := some 7 }

theorem test_outsideRunning :
    (after (.hostPassThrough reading) State.reset).path.reply.term = .retry
    ∧ (after (.hostPassThrough writing) { sample with path.mode := .starting }).path.reply.term = .retry
    ∧ (after (.hostPassThrough reading) { sample with path.mode := .starting }).path.reply.term = .ready
    ∧ (after (.hostPassThrough writing) { sample with path.mode := .transparent }).driven = [(0x900000, 7)]
    ∧ { sample with path.mode := .starting, tariff.prog.job := some { op := .erase 0, use := .beginErase } }.flashHolds
        (wordAddr 0x100) = true := by decide +kernel

/-- SALE_CMD is latched, and a write to it is answered RETRY (R40). -/
theorem test_pendingEmptiesTheSlot :
    (after (.hostPassThrough { writing with word := wordAddr 0x800000 })
      { sample with
        path.owed := [.saleResp]
        path.slot := .waiting { word := wordAddr 0x800000, size := .word, group := .saleResp } }).path.slot
      = .empty := by decide +kernel

theorem test_pendingAnswersRetry :
    (after (.hostPassThrough { writing with word := wordAddr 0x800000 })
      { sample with path.owed := [.saleResp] }).path.reply.term = .retry
    ∧ (after (.hostPassThrough { writing with word := sample.cellAddr .jexportLow })
      { sample with path.owed := [.jexportResp] }).path.reply.term = .retry
    ∧ sample.kindAt Cell.jexportLow.place = .input
    ∧ (after (.hostPassThrough { reading with word := 0 })
      { sample with tariff.prog.job := some { op := .erase 0, use := .beginErase } }).path.reply.term
        = .retry := by decide +kernel

/-- FAULT pending; CASH pending with its latch frozen at other levels. -/
def attending (x : Source) : State :=
  { sample with
    fault.sources := sample.fault.sources.set x { enabled with pend := true }
    cash.latch := .frozen { door := true, box := true, key := true } }

/-- ROLL calls below SALE; FAULT is in service. -/
def nested (sale : Bool) : State :=
  { sample with
    fault.sources :=
      { sample.fault.sources with
        sale := { enabled with pend := sale }, roll := { enabled with pend := true }
        fault := { enabled with serving := true } } }

theorem test_codedVector :
    sample.vector = 14 ∧ sample.attn = false ∧ (attending .fault).vector = 2 ∧ (attending .fault).attn = true
    ∧ (nested true).fault.sources.next = some .sale ∧ (nested true).vector = 1
    ∧ (nested false).fault.sources.next = none ∧ (nested false).vector = 14
    ∧ { sample with path.mode := .transparent }.attn = true
    ∧ { attending .fault with path.mode := .starting }.attn = false
    ∧ (.image .peek ∈ (after (.attnTake true true) (attending .fault)).path.ready) := by decide +kernel

theorem test_attention_taken :
    sample.latchedWord = none ∧ sample.fault.sources.next = none
    ∧ (attending .fault).fault.sources.next = some .fault
    ∧ (after (.attnTake true true) (attending .fault)).fault.sources.fault.serving = true
    ∧ (attending .cash).fault.sources.next = some .cash
    ∧ (after (.attnTake true false) (attending .cash)).fault.sources.cash.pend = true
    ∧ (after (.attnTake true true) sample).path.reply.term = .ready := by decide +kernel

theorem test_attention_endedAndEnabled :
    (after (.attnEos 0) { sample with fault.sources.roll := { enabled with serving := true } }).fault.attnEos = 16
    ∧ (after (.attnEos 9) sample).fault.attnEos = 17
    ∧ (after (.attnEnable 0x1E) (attending .cash)).fault.sources.cash.pend = true
    ∧ (after (.attnEnable 0x1B) (attending .cash)).cash.latch = .live := by decide +kernel

/-- A close of a commit at a step, with one of its two groups written. -/
def closing (n : Nat) : Close :=
  { kind := .commit, number := 1000, journal := List.replicate 24 0, period := PeriodRecord.zero.words
    box := List.replicate 12 0, permit := none, stepDone := n, saleWritten := false, tenderWritten := true }

/-- The sample in such a close. -/
def inClose (n : Nat) : State := { inState .committing with cash.close := some (closing n) }

/-- A group or image at the front of the ready order. -/
def front (s : State) (x : ReadyItem) (gs : List Group) : State :=
  { s with path.ready := [x], path.owed := gs }

theorem test_groupWrite :
    (after .groupWrite (front (held (.waiting latched)) (.group .price) [.price])).path.slot
        = .complete latched 0 8
    ∧ (after .groupWrite { front (inClose 4) (.group .saleResp) [.saleResp] with
        sale.recordStep := true }).cash.close.map Close.stepDone = some 5
    ∧ (after .groupWrite { front (inClose 4) (.group .tenderResp) [.tenderResp] with
        sale.recordStep := true }).cash.close.map Close.stepDone = some 4
    ∧ (after .groupWrite (front { queued with permit.tail := 9 } (.group .amendResp) [.amendResp])).permit.handed
        = 9 := by decide +kernel

/-- The rest of the ready order and a slot that is not WAITING stay as they were. -/
theorem test_groupWrite_keeps :
    (after .groupWrite { front (held .empty) (.group .price) [.price, .bookResp] with
        path.ready := [.group .price, .image .peek, .group .bookResp] }).path.ready
        = [.image .peek, .group .bookResp]
    ∧ (after .groupWrite (front (held .empty) (.group .price) [.price])).path.slot = .empty
    ∧ (after .groupWrite (front (held (.complete latched 3 4)) (.group .price) [.price])).path.slot
        = .complete latched 3 4 := by decide +kernel

/-- The group writer with the two ESCROW words of CASH above or below SALE. -/
def tendering (m : WindowMap) : State :=
  { front { selling with path.map := some m } (.group .tenderResp) [.tenderResp] with
    sale.escrow := #v[1, 0, 0, 0, 0, 0, 0, 7] }

theorem test_groupWrite_everyWord :
    ((after .groupWrite (tendering layout)).driven.head? = some (0x810000 + 50, 7))
    ∧ (after .groupWrite (tendering layout)).driven.length = 13
    ∧ { layout with cash := 0x7E0000 }.placed = false
    ∧ { layout with sale := 0x840000, control := 0x840100 }.placed = false
    ∧ { layout with sale := 0x900000 }.placed = true
    ∧ ((after .groupWrite (tendering { layout with sale := 0x900000 })).driven.reverse.head?
        = some (0x810000 + 48, 0))
    ∧ ((after .groupWrite (front selling (.group .faultResp) [.faultResp])).driven.length = 9) := by decide +kernel

theorem test_imageRewrite :
    (after .imageRewrite (front sample (.image .take) [])).driven = [(0x800100 + 34, 0)]
    ∧ (after .imageRewrite (front sample (.image .routes) [])).driven.length = 16
    ∧ (after .imageRewrite (front sample (.image (.notice .roll)) [])).driven = [(0x800100 + 46, 0)] := by
  decide +kernel

/-- A raised fault, a service request and a settled line ask for their images. -/
theorem test_imagesAreAskedFor :
    (.image (.notice .fault)) ∈ (after (.report 5) sample).path.ready
    ∧ (after (.report 5) sample).imageWords (.notice .fault) ≠ sample.imageWords (.notice .fault)
    ∧ (.image .stopSet) ∈ (after (.salesOff 0) sample).path.ready
    ∧ (after (.salesOff 0) sample).imageWords .stopSet ≠ sample.imageWords .stopSet := by decide +kernel

/-- Every engine waits, or none; the count stands at 7 or 8. -/
def counted (n : Nat) : Arbiter := { count := n, pointer := .cashWriter, granted := none }

theorem test_arbiter :
    (counted 7).grant (fun _ => true) true = { counted 8 with granted := some .host }
    ∧ (counted 8).grant (fun _ => true) true
        = { count := 0, pointer := .permitUnit, granted := some (.engine .cashWriter) }
    ∧ (counted 8).grant (fun _ => false) true = { counted 8 with granted := some .host }
    ∧ (counted 8).grant (fun _ => false) false = counted 8
    ∧ (counted 3).pointer.circle.find? (fun e => e == .groupWriter) = some .groupWriter
    ∧ (after (.memoryPortGrant true) State.reset).path.arb = State.reset.path.arb := by decide +kernel

/-- The host has had a number of grants, and a group waits. -/
def busyPort (n : Nat) : State := { front sample (.group .price) [.price] with path.arb := counted n }

theorem test_accessesAreGranted :
    (after (.hostPassThrough reading) (busyPort 7)).path.arb = { counted 8 with granted := some .host }
    ∧ (after (.hostPassThrough reading) (busyPort 8)).path.arb
        = { count := 1, pointer := .cashWriter, granted := some .host }
    ∧ (after (.hostPassThrough reading) { sample with path.arb := counted 8 }).path.arb
        = { counted 8 with granted := some .host }
    ∧ (after (.ownedCellWrite charge true true 1) sample).path.arb = sample.path.arb
    ∧ sample.accessOf .openSale = some { word := wordAddr 0x800000, hi := true, lo := true, data := some 1 }
    ∧ (after .groupWrite (busyPort 8)).path.arb
        = { count := 0, pointer := .cashWriter, granted := some (.engine .groupWriter) }
    ∧ (after .closeStep (inClose 1)).path.arb.granted = some (.engine .cashWriter)
    ∧ (after .installBegin sample).path.arb.granted = some (.engine .tariffUnit)
    ∧ (inClose 1).engineWaits .cashWriter = true ∧ sample.engineWaits .tariffUnit = false
    ∧ { sample with start := { phase := .waitFbusy, fbusyLimit := none } }.engineWaits .startUpReader = true := by
  decide +kernel

theorem test_reachesMemory : sample.Reaches reading ∧ ¬ State.reset.Reaches reading := by
  refine ⟨⟨by decide, by decide, by decide, fun _ => ⟨by decide +kernel, fun _ => ⟨?_, ?_, ?_⟩, ?_⟩⟩, fun h => h.1 rfl⟩
  · intro r h; exact nomatch (h : DelayedSlot.empty = .waiting r)
  · intro r v n h; exact nomatch (h : DelayedSlot.empty = .complete r v n)
  · intro p h; exact absurd ((show sample.placeOf reading.word = none by decide +kernel).symm.trans h) (by simp)
  · intro h; exact absurd rfl h

/-! ## The permit unit -/

/-- An OPEN sale with a number kept. -/
def asking (n : DWord) : State := { selling with permit.kept := n }

theorem test_permitRequests :
    (after .check sample).permit.permitReq = 26 ∧ (after .drop sample).permit.permitReq = 26
    ∧ (after .check (asking 0)).permit.permitReq = 27
    ∧ (after .check (asking 0xFFFFFFFF)).permit.permitReq = 27
    ∧ (after .check (stopped (asking 1) [.rollDown])).permit.permitReq = 25
    ∧ (after .check (asking 0xFFFFFFFE)).permit.lock.holder = some .search
    ∧ (after .drop (asking 1)).sale.verdict = .none
    ∧ (after (.permitReqUnknown 3) sample).permit.permitReq = 28 := by decide +kernel

/-- A permit record with a status, dated from 100 to 60000, with an allowance of 1. -/
def record (n : Word) (status : Byte) (good : Bool) : List Word :=
  let body : List Word := [n, 0, mkWord status 1, 0x0107, 0, 0, 100, 60000, 1, 0, 0, 0, 0, 0, 0]
  body ++ [if good then crc body else 0]

/-- Bucket 5 of the roll: LIVE in slot 0, damaged in slot 1, REVOKED in slot 2. -/
def roll : Memory :=
  ((((Memory.writeAll [] (runWrites (0x820000 + 2 * (16 + 136 * 5)) (bucketHeader 5 3 false))).writeAll
    (runWrites (0x820000 + 2 * (16 + 136 * 5 + 8)) (record 0x205 1 true))).writeAll
    (runWrites (0x820000 + 2 * (16 + 136 * 5 + 24)) (record 0x405 1 false))).writeAll
    (runWrites (0x820000 + 2 * (16 + 136 * 5 + 40)) (record 0x605 2 true)))

/-- A search at work in a bucket. -/
def searching (p : SearchPhase) (n : DWord) (b : BitVec 9) : State :=
  { selling with
    mem := roll
    cfg.zone := 1
    tariff.cache := some book
    permit.lock := { holder := some .search, waiters := [] }
    permit.search := some
      { number := n, minute := 2000000, today := 1388, phase := p, bucket := b, examined := 1, slot := 0
        overflow := false } }

/-- The phase of the search in flight. -/
def phaseOf (s : State) : Option SearchPhase := s.permit.search.map Search.phase

set_option maxRecDepth 20000 in
theorem test_seek :
    phaseOf (after .searchSeek (searching .waiting 0x205 0)) = some .scan
    ∧ phaseOf (after .searchSeek (searching .seek 0x205 5)) = some .scan
    ∧ (after .searchSeek (searching .seek 0x205 6)).permit.permitReq = 24
    ∧ (after .searchSeek (stopped (searching .waiting 0x205 0) [.rollDown])).permit.permitReq = 25
    ∧ (after .searchScan { searching .scan 1 5 with permit.dying := true }).permit.dying = false := by
  decide +kernel

set_option maxRecDepth 20000 in
/-- A scan that hits, meets a damaged or a REVOKED record, ends the chain, or goes on along it. -/
theorem test_scan :
    (after .searchScan { searching .scan 0x205 5 with cfg.zone := 7 }).permit.permitReq = 16
    ∧ (after .searchScan (searching .scan 0x205 5)).permit.permitReq = 21
    ∧ (after .searchScan (searching .scan 0x405 5)).permit.permitReq = 24
    ∧ (after .searchScan (searching .scan 0x605 5)).permit.permitReq = 18
    ∧ (after .searchScan (searching .scan 0x805 5)).permit.permitReq = 17 := by decide +kernel

/-- The chain goes on while the overflow flag is set and the probe limit is not reached. -/
def further (n : Nat) : State :=
  { searching .scan 0x805 5 with
    permit.search := (searching .scan 0x805 5).permit.search.map fun q =>
      { q with overflow := true, examined := n } }

set_option maxRecDepth 20000 in
theorem test_scan_alongTheChain :
    phaseOf (after .searchScan (further 1)) = some .seek
    ∧ (after .searchScan (further 2)).permit.permitReq = 17 := by decide +kernel

/-- The commit permit step holds the lock for a permit, and took today when it was handed it. -/
def rechecking (n : DWord) (k : Nat) : State :=
  { inState .committing with
    mem := roll
    sale.permit := some { permit with number := n, slot := k }
    permit.commitDay := todayOf (inState .committing).time.minute
    permit.lock := { holder := some .commitStep, waiters := [] } }

set_option maxRecDepth 20000 in
theorem test_commitPermitStep :
    (rechecking 0x205 0).sale.permitPart = none
    ∧ (after .commitPermitStep (rechecking 0x205 0)).cash.close.isSome = true
    ∧ (after .commitPermitStep (rechecking 0x405 1)).sale.verdict = .damaged
    ∧ (after .commitPermitStep (rechecking 0x205 2)).sale.verdict = .notFound
    ∧ (after .commitPermitStep (stopped (rechecking 0x205 0) [.rollDown])).sale.state = .opened
    ∧ (after .commitPermitStep (stopped (rechecking 0x205 0) [.rollDown, .doorOpen])).sale.state
        = .voiding := by decide +kernel

set_option maxRecDepth 20000 in
theorem test_commitDay :
    (after .commitWaitEnd { waiting 1 with sale.permit := some permit, time.minute := 2879 }).permit.commitDay = 1
    ∧ (after .minuteMark
        (after .commitWaitEnd { waiting 1 with sale.permit := some permit, time.minute := 2879 })).permit.commitDay = 1
    ∧ (after .commitPermitStep { rechecking 0x205 0 with permit.commitDay := 60001 }).sale.verdict = .expired := by
  decide +kernel

/-- The scrub holds the lock at a bucket. -/
def scrubbing (b : BitVec 9) : State :=
  { sample with
    mem := roll, permit.scrubCursor := b
    permit.lock := { holder := some .scrub, waiters := [] } }

set_option maxRecDepth 20000 in
theorem test_scrub :
    (after .scrubStep (scrubbing 5)).fault.list.length = 1
    ∧ (after .scrubStep (scrubbing 511)).permit.scrubCursor = 0
    ∧ (after .scrubStep (stopped (scrubbing 5) [.rollDown])).permit.scrubCursor = 5 := by decide +kernel

/-! ## Amendments -/

theorem test_tailRequests :
    (after (.amendTail 6) queued).permit.amendStatus = 16 ∧ (after (.amendTail 2) queued).permit.amendStatus = 16
    ∧ (after (.amendTail 5) queued).permit.amendStatus = 17
    ∧ (after (.amendTail 3) queued).permit.amendStatus = 17
    ∧ (after (.amendTail 32) queued).permit.amendStatus = 17 := by decide +kernel

/-- The engine applies an entry at the head with an operation, a permit number and an allowance. -/
def applying (op n allowance : Word) : State :=
  { queued with
    mem := roll.writeAll (runWrites (queued.entryAddr 3)
      [op, 9, 0, 0, n, 0, 0x0101, 0x0107, 0, 0, 100, 60000, allowance])
    permit.amend := .applying
    permit.headerGood := true
    permit.recordCount := 3
    permit.lock := { holder := some .amendment, waiters := [] } }

/-- The result word of the entry that was at the head. -/
def resultOf (c : Instr) (s : State) : Word := (after c s).word (s.entryAddr 3 + 6)

set_option maxRecDepth 20000 in
theorem test_entries_tested :
    resultOf .badOp (applying 6 1 1) = 21 ∧ resultOf .badOp (applying 0 1 1) = 21
    ∧ resultOf .add { applying 1 5 1 with permit.headerGood := false } = 22
    ∧ resultOf .add (applying 1 5 0) = 20 ∧ resultOf .replace (applying 2 0x205 16) = 20
    ∧ resultOf .delete (applying 4 0 1) = 20 := by decide +kernel

set_option maxRecDepth 20000 in
theorem test_add :
    badImage (applying 1 5 1).headImage = false
    ∧ ((applying 1 0x205 1).inProgress.walkFor false 0x205).finish = .target 5 0
    ∧ resultOf .add (applying 1 0x205 1) = 17 ∧ resultOf .add (applying 1 6 1) = 22
    ∧ resultOf .add (applying 1 0x1005 15) = 16 := by decide +kernel

set_option maxRecDepth 20000 in
theorem test_walkAndExtension :
    ((applying 1 0x1005 1).walkFor false 0x1005).finish = .absent
    ∧ ((applying 1 0x1005 1).walkFor false 0x1005).seen = [5]
    ∧ ((applying 1 6 1).walkFor false 6).finish = .failed 6
    ∧ (((applying 1 5 1).walkFor false 5).extend true 1 6).finish = .failed 6
    ∧ (applying 1 5 1).freePlace [5] = some (5, 3) := by decide +kernel

/-- A bucket with no free slot, and the next of its chain: a probe limit of 1 ends the walk there. -/
def crowded : State :=
  { applying 1 0x1005 1 with
    cfg.probeLimit := 1
    mem := ((List.range 8).foldl (fun m k =>
      Memory.writeAll m (runWrites (0x820000 + 2 * (16 + 136 * 5 + 8 + 16 * k)) (record 0x205 1 true)))
      (applying 1 0x1005 1).mem) }

set_option maxRecDepth 20000 in
theorem test_add_full :
    resultOf .add crowded = 19 ∧ (after .add crowded).fault.list.length = 1 := by decide +kernel

set_option maxRecDepth 20000 in
theorem test_replaceRevokeDelete :
    resultOf .replace (applying 2 0x205 1) = 16 ∧ resultOf .replace (applying 2 0x805 1) = 18
    ∧ resultOf .revoke (applying 3 0x205 1) = 16 ∧ resultOf .revoke (applying 3 0x405 1) = 22
    ∧ resultOf .delete (applying 4 0x405 1) = 16 ∧ resultOf .delete (applying 4 6 1) = 22 := by
  decide +kernel

theorem test_rollClearApplies : (applying 5 0 0).Applies 5 := by
  show _ ∧ _
  decide +kernel

/-! ## Pricing -/

theorem test_bandLookup :
    (bandAt (some book) 1079).index = 0 ∧ (bandAt (some book) 1080).index = 1
    ∧ (bandAt (some book) 1080).finish = 1200 ∧ (bandAt (some book) 1439).finish = 1440
    ∧ (bandAt none 5).band.kind = .noParking := by decide +kernel

/-- A run as it starts, for a tender and a permit category at a minute. -/
def starts (t0 pence : Nat) (c : Option Byte) : PriceRun :=
  PriceRun.ofRequest (some book) { t0 := t0, tendered := pence, permit := c }

theorem test_runsStart :
    (starts 0 0 none).result.isSome = true ∧ (starts 0 29 none).result.isSome = true
    ∧ (starts 0 30 none).result = none ∧ (starts 0 0 (some 1)).result = none
    ∧ (starts 0 29 (some 1)).result = none := by decide +kernel

/-- The engine has a run. -/
def pricing (r : PriceRun) : State :=
  { selling with tariff.cache := some book, tariff.engine := { run := some r, overtaken := .no }
                 path.owed := [.price] }

/-- The result that the run in the engine has formed. -/
def formed (s : State) : Option PriceResult := s.tariff.engine.run.bind PriceRun.result

theorem test_bandSteps :
    (formed (after .bandStep (pricing (starts 0 100 none)))).map PriceResult.expiry = some 60
    ∧ (formed (after .bandStep (pricing (starts 0 200 none)))).map PriceResult.expiry = some 120
    ∧ formed (after .bandStep (pricing (starts 1000 200 none))) = none
    ∧ (formed (after .bandStep (pricing (starts 0 0 (some 1))))).map PriceResult.expiry = some 120
    ∧ formed (after .bandStep (pricing (starts 1080 100 none))) = none
    ∧ (formed (after .bandStep (pricing (starts 1200 100 none)))).map PriceResult.flags = some 68
    ∧ (after .bandStep { pricing (starts 0 100 none) with tariff.engine.overtaken := .stop }).tariff.engine.run
        = none := by decide +kernel

/-- A run whose money ends one minute before the walk limit, rounded up to it; its book rounds up. -/
def clipped : State :=
  let near := { starts 0xFFFFFFF0 1 none with p := 0xFFFFFFFD, result := none }
  let ups : BookCache := { book with zone.defaultRounding := .up, zone.minCharge := 0 }
  { pricing near with tariff.cache := some { ups with zone.dayTypes := ups.zone.dayTypes.map (·.take 1) } }

theorem test_bandStep_clippedByRounding :
    (formed (after .bandStep clipped)).map PriceResult.flags = some 3
    ∧ (formed (after .bandStep clipped)).map PriceResult.expiry = some 0xFFFFFFFE := by decide +kernel

theorem test_priceRunComplete :
    (after .priceRunComplete (pricing (starts 7 0 none))).sale.price.pricedAt = 7
    ∧ (after .priceRunComplete (pricing (starts 7 0 none))).path.ready = [.group .price] := by
  decide +kernel

/-! ## Closes -/

/-- The sample in the close of a commit with a permit record to write. -/
def withPermit : State :=
  { inClose 3 with
    cash.close := some { closing 3 with permit := some { bucket := 5, slot := 0, image := record 1 1 true } }
    permit.lock := { holder := some .commitStep, waiters := [.scrub] } }

theorem test_closeSteps :
    ((after .closeStep (inClose 0)).driven.head? = some (0x810000 + 66, 1))
    ∧ (after .closeStep (inClose 1)).driven.length = 65 ∧ (after .closeStep (inClose 2)).driven.length = 13
    ∧ (after .closeStep (inClose 3)).driven.length = 1 ∧ (after .closeStep withPermit).driven.length = 17
    ∧ (after .closeStep withPermit).permit.lock.holder = some .scrub
    ∧ (after .closeStep (inClose 4)).sale.recordStep = true := by decide +kernel

/-- The end of a commit's close that brings the box to a coin total. -/
def ending (coins : Word) : State :=
  { inClose 5 with cash.close := some { closing 5 with box := List.replicate 8 0 ++ [coins, 0, 0, 0] } }

theorem test_closeEnd :
    (after .closeEnd (ending 159)).fault.list.length = 0 ∧ (after .closeEnd (ending 160)).fault.list.length = 1
    ∧ (after .closeEnd (ending 199)).fault.list.length = 1
    ∧ (after .closeEnd (ending 200)).fault.stop = [.boxFull]
    ∧ (after .closeEnd (ending 0)).sale.state = .closed := by decide +kernel

/-- A period close waits. -/
def periodWaits (x : SaleState) : State := { inState x with cash.waiting := [.periodClose] }

/-- A period close at a step. -/
def filing (n : Nat) : State :=
  { sample with cash.close := some { closing n with kind := .period, number := 4 } }

theorem test_periodCloses :
    (after .periodClose (periodWaits .idle)).cash.close.map Close.kind = some .period
    ∧ (after .periodClose (periodWaits .committing)).cash.close = none
    ∧ (after .periodCloseStep (filing 0)).driven.length = 65
    ∧ (after .periodCloseStep (filing 2)).driven.length = 13
    ∧ (after .periodCloseStep (filing 3)).cash.close = none := by decide +kernel

/-- A sale in its permit step, COMMITTING, with a period close in flight, as another one falls due. -/
def dueInCommit : State :=
  { filing 3 with sale.state := .committing, sale.number := 1000 }

/-- R146: the period close that falls due waits behind the sale's close, before or after this is handed over. -/
theorem test_periodDue_behindTheSale :
    dueInCommit.periodDue.cash.waiting = [.saleComes, .periodClose]
    ∧ dueInCommit.periodDue.handClose.cash.waiting = [.saleClose, .periodClose]
    ∧ (after .periodCloseStep dueInCommit.periodDue.handClose).cash.close.map Close.kind = some .commit
    ∧ (after .periodCloseStep dueInCommit.periodDue).cash.waiting = [.periodClose]
    ∧ { filing 3 with cash.waiting := [.periodClose] }.handClose.cash.waiting = [.periodClose, .saleClose] := by
  decide +kernel

/-- The procedure at a point of start-up. -/
def within (x : StartPhase) (s : State) : State := { s with start.phase := x, path.mode := .starting }

theorem test_closesInStartUp :
    (after .closeEnd (within .waitClose { ending 0 with lines.door.level := none })).start.phase = .waitLines
    ∧ (after .periodCloseStep (within .waitPeriod (filing 3))).start.phase = .waitOwed
    ∧ (after .periodCloseStep (within .waitPeriod (filing 2))).start.phase = .waitPeriod := by decide +kernel

theorem test_exports :
    (after (.jexport 0) { sample with cash.exportLow := 900 }).cash.exportMark = 900
    ∧ (after (.jexport 0) { sample with cash.exportLow := 999 }).cash.exportMark = 999
    ∧ (after (.jexport 0) { sample with cash.exportLow := 1000 }).cash.exportMark = 900
    ∧ (after (.pexport 3) sample).cash.pexport = 3 ∧ (after (.pexport 4) sample).cash.pexport = 1 := by
  decide +kernel

/-! ## Fault unit, cash requests, time -/

theorem test_serviceRequests :
    (after (.salesOff 9) sample).fault.stop = [.salesOff]
    ∧ (after (.salesOn 9) (stopped sample [.salesOff])).fault.stop = []
    ∧ (after (.clearStop 8) (stopped sample [.machineStop])).fault.stop = []
    ∧ (after (.clearStop 10) (stopped sample [.rollDown])).fault.stop = []
    ∧ (after (.clearStop 9) (stopped sample [.salesOff])).fault.serviceCmd = 17
    ∧ (after (.serviceCmdUnknown 0x0804) sample).fault.serviceCmd = 18 := by decide +kernel

theorem test_popAndReport :
    (after .pop sample).fault.faultCmd = 17 ∧ (after .pop (after (.report 255) sample)).fault.faultCmd = 16
    ∧ (after (.faultCmdUnknown 2) sample).fault.faultCmd = 18
    ∧ (after (.report 1) selling).sale.state = .voiding
    ∧ (after (.report 1) (stopped selling [.machineStop])).sale.state = .opened
    ∧ (after (.reportBadCode 256) sample).fault.reportCmd = 17 := by decide +kernel

/-- The sample with the key not turned. -/
def noKey (s : State) : State := { s with lines.key.level := some false }

theorem test_collectRequests :
    (after .authorise { sample with cash.compartment := .opened }).cash.collectCmd = 18
    ∧ (after .authorise (noKey sample)).cash.collectCmd = 17
    ∧ (after .authorise { sample with cash.pnext := 18 }).cash.collectCmd = 19
    ∧ (after .authorise { sample with cash.pnext := 17 }).cash.compartment = .authorised
    ∧ (after .authorise { sample with cash.period.number := 65535 }).cash.collectCmd = 19
    ∧ (after .clearIntrusion sample).cash.collectCmd = 18
    ∧ (after .clearIntrusion (noKey { sample with cash.intrusion := true })).cash.collectCmd = 17
    ∧ (after .clearIntrusion { sample with cash.intrusion := true }).cash.intrusion = false
    ∧ (after (.collectCmdUnknown 3) sample).cash.collectCmd = 20 := by decide +kernel

theorem test_time :
    (after (.time 0xFFFF) { sample with time.low := 0xFFFF }).time.timeHi = 17
    ∧ (after (.time 0xFFFF) { sample with time.low := 0xFFFE }).time.minute = 0xFFFFFFFE
    ∧ (after (.time 0) selling).tariff.engine.run.isSome = true := by decide +kernel

/-! ## Lines and the minute mark -/

/-- DOOR or BOX has changed, and its timer has run out. -/
def changed (s : State) (l : Line) (level : Bool) : State :=
  { s with lines := s.lines.set l { raw := level, level := some !level, timer := some 0 } }

/-- The sample with the compartment in a state. -/
def compartment (s : State) (c : Compartment) : State := { s with cash.compartment := c }

theorem test_doorAndBox :
    (after (.lineChange .door) (changed (compartment sample .authorised) .door true)).fault.stop = [.doorOpen]
    ∧ (after (.lineChange .door) (changed sample .door true)).cash.compartment = .breached
    ∧ (after (.lineChange .box) (changed (compartment sample .opened) .box false)).cash.waiting
        = [.periodClose]
    ∧ (after (.lineChange .box) (changed selling .box false)).sale.inhibit = 1
    ∧ (after (.lineChange .box)
        (changed (compartment (stopped selling [.boxAbsent]) .sealedEmpty) .box true)).fault.stop = []
    ∧ (after (.lineChange .door) (changed (compartment selling .authorised) .door true)).sale.voidReason
        = .doorOpened
    ∧ (after (.lineChange .door) (changed selling .door true)).sale.voidReason = .stopped := by
  decide +kernel

theorem test_lineChangesInStartUp :
    (after (.lineChange .box)
      (within .waitOwed (changed (stopped sample [.boxAbsent]) .box true))).fault.stop = []
    ∧ (after (.lineChange .door) (within .waitOwed (changed sample .door true))).cash.compartment = .sealed
    ∧ (after (.lineChange .door) (within .waitOwed (changed sample .door true))).lines.door.level = some true
    ∧ (after (.lineChange .key) (within .waitOwed (changed sample .key false))).fault.sources.cash.pend = true := by
  decide +kernel

/-- A session in a state, with KEY withdrawn and its timer run out. -/
def withdrawn (x : SessionState) (j : Option FlashJob) : State :=
  changed { sample with tariff.session.state := x, tariff.prog.job := j } .key false

theorem test_keyChanges :
    (after (.lineChange .key) (withdrawn .erasing none)).tariff.session.keyLost = true
    ∧ (after (.lineChange .key) (withdrawn .opened none)).tariff.prog.job.isSome = true
    ∧ (after (.lineChange .key)
        (withdrawn .opened (some { op := .erase 0, use := .hostWord }))).tariff.session.waits = [.keyWithdrawn]
    ∧ (after (.lineChange .key) (withdrawn .closed none)).tariff = sample.tariff
    ∧ (after (.lineChange .key) { withdrawn .opened none with path.mode := .starting }).tariff.prog.job
        = none := by decide +kernel

/-- DOOR has no debounced level yet, with its timer at a count. -/
def unsettled (n : Nat) : State :=
  { sample with lines.door := { raw := true, level := none, timer := some n }
                lines.settleLimit := some 0 }

theorem test_lines :
    (after (.rawLineChange .door true) sample).lines.door.timer = some 20
    ∧ (after (.rawLineChange .box false) (changed sample .box true)).lines.box.timer = none
    ∧ (after (.lineSettled .door) (unsettled 0)).lines.door.level = some true
    ∧ (after (.lineSettled .door) (unsettled 0)).path.ready = [.image .lines]
    ∧ (after (.lineSettled .door) (unsettled 1)).lines.door.level = none
    ∧ (after .lineSettleLimit (unsettled 1)).lines.door.level = some true
    ∧ (after .lineSettleLimit sample).lines.settleLimit = none := by decide +kernel

/-- An OPEN sale with an idle count. -/
def idling (n : Nat) : State := { selling with sale.idle := n }

/-- An authorisation with a count. -/
def authorised (n : Nat) : State := { compartment sample .authorised with cash.authCount := n }

theorem test_minuteMark :
    (after .minuteMark { sample with time.minute := 0xFFFFFFFE }).time.minute = 0xFFFFFFFE
    ∧ (after .minuteMark { sample with time.minute := 0xFFFFFFFD }).time.minute = 0xFFFFFFFE
    ∧ (after .minuteMark { sample with path.mode := .starting }).time.minute = 2000001
    ∧ (after .minuteMark (idling 1)).sale.idle = 2
    ∧ (after .idleTimeout (idling 2)).sale.voidReason = .idleTimeout
    ∧ (after .idleTimeout (idling 1)).sale.idle = 1
    ∧ (after .authorisationEnd (authorised 1)).cash.compartment = .sealed
    ∧ (after .authorisationEnd (authorised 2)).cash.authCount = 2
    ∧ (after .minuteMark (authorised 2)).cash.authCount = 1 := by decide +kernel

/-! ## Books -/

theorem test_bookRequests :
    (after .installBegin (noKey sample)).tariff.bookCmd = 17
    ∧ (after .installBegin installing).tariff.bookCmd = 18
    ∧ (after .installBegin sample).tariff.session.state = .erasing
    ∧ (after .installEnd sample).tariff.bookCmd = 19 ∧ (after .installAbort sample).tariff.bookCmd = 19
    ∧ (after .installEnd installing).tariff.session.state = .ending
    ∧ (after .installAbort
        { installing with tariff.prog.job := some { op := .erase 0, use := .hostWord } }).tariff.hand
        = some .installAbort
    ∧ (after .cancelPending { sample with tariff.due := true }).tariff.bookCmd = 18
    ∧ (after .cancelPending sample).tariff.bookCmd = 19
    ∧ (after .cancelPending { sample with tariff.pendingSlot := some .b }).tariff.hand = some .cancelPending
    ∧ (after (.bookCmdUnknown 5) sample).tariff.bookCmd = 22 := by decide +kernel

/-- A program of the host's word in flight, or waiting for FBUSY. -/
def programming (waits : Bool) (timer : Nat) : State :=
  { installing with
    flash := { fbusy := true, op := if waits then none else some (.program 8194 0x00F0) }
    tariff.prog :=
      { job := some { op := .program 8194 0x00F0, use := .hostWord }, waitsFbusy := waits
        timer := some timer, jobs := [] } }

theorem test_flashOperations :
    (after .flashOpEnd (programming false 3)).word 8194 = 0x00F0
    ∧ (after (.flashWaitLimit [9]) (programming false 0)).fault.list.length = 1
    ∧ (after (.flashWaitLimit [9]) (programming true 0)).tariff.prog.job.isSome = true
    ∧ (after (.fbusyDeasserted [9]) (programming true 3)).tariff.prog.waitsFbusy = false
    ∧ (after (.fbusyDeasserted [9]) { sample with flash.fbusy := true }).flash.fbusy = false
    ∧ (∀ b, (programming true 3).start.phase ≠ .books b) := by
  refine ⟨?_, ?_, ?_, ?_, ?_, fun b h => StartPhase.noConfusion h⟩ <;> decide +kernel

/-- An end with the programmer waiting for FBUSY, and a wait limit before its time, do nothing. -/
theorem test_flashOperations_idle :
    after .flashOpEnd (programming true 3) = programming true 3
    ∧ after (.flashWaitLimit [9]) (programming false 3) = programming false 3
    ∧ after (.flashWaitLimit [9]) (programming true 3) = programming true 3 := by decide +kernel

/-- A REJECTED marking in flight with KEY withdrawn meanwhile: after a failed erase, and of an INSTALL_ABORT. -/
def rejecting (use : FlashUse) (x : SessionState) : State :=
  { installing with
    flash := { fbusy := true, op := some (.program 8192 0) }
    tariff.hand := some .installAbort
    tariff.session :=
      { state := x, slot := .b, keyLost := x == .erasing, waits := if x = .opened then [.keyWithdrawn] else [] }
    tariff.prog :=
      { job := some { op := .program 8192 0, use := use }, waitsFbusy := false, timer := some 3, jobs := [] } }

theorem test_keyInMarkings :
    (after .flashOpEnd (rejecting (.beginReject 21) .erasing)).tariff.bookCmd = 17
    ∧ (after .flashOpEnd (rejecting (.beginReject 21) .erasing)).tariff.prog.job = none
    ∧ (after .flashOpEnd (rejecting (.beginReject 21) .erasing)).fault.list.length = 1
    ∧ (after .flashOpEnd (rejecting .abortRequest .opened)).tariff.bookCmd = 16
    ∧ (after .flashOpEnd (rejecting .abortRequest .opened)).fault.list.length = 0 := by decide +kernel

/-- A CANCEL_PENDING marking in flight whose wait limit has run out. -/
def cancelling : State :=
  { sample with
    tariff.pendingSlot := some .b, tariff.hand := some .cancelPending
    flash := { fbusy := true, op := some (.program 8192 0x07FF) }
    tariff.prog :=
      { job := some { op := .program 8192 0x07FF, use := .cancelMark }, waitsFbusy := false
        timer := some 0, jobs := [] } }

theorem test_cancelMarking :
    (after .flashOpEnd cancelling).tariff.pendingSlot = none
    ∧ (after .flashOpEnd cancelling).tariff.bookCmd = 16
    ∧ (after (.flashWaitLimit [0x0FFF]) cancelling).tariff.pendingSlot = some .b
    ∧ (after (.flashWaitLimit [0x0FFF]) cancelling).tariff.bookCmd = 21 := by decide +kernel

/-- A changeover has come to a stage, with slot B pending and slot A in force. -/
def changing (x : ChangeStage) : State :=
  { sample with tariff.change := some x, tariff.pendingSlot := some .b, tariff.inForce := some .a }

theorem test_changeover :
    (after .changeover (changing .toActivate)).tariff.change = some .activating
    ∧ (after .changeover (changing .toRetire)).tariff.change = some .retiring
    ∧ (after .changeover { changing .toRetire with tariff.inForce := none }).tariff.inForce = some .b
    ∧ (after .changeover (changing .toFill)).fault.stop = [.tariffBad]
    ∧ (after .changeover sample).tariff = sample.tariff
    ∧ (after .dailyCheck { sample with tariff.checkDue := true, tariff.inForce := some .a }).fault.stop
        = [.tariffBad]
    ∧ (after .dailyCheck { sample with tariff.checkDue := true }).tariff.checkDue = false
    ∧ (after .dailyCheck sample).tariff = sample.tariff := by decide +kernel

/-- The words of a book of 64 words with one zone, 7, whose section lies at word 16. -/
def bookWords (id rate : Word) : List Word :=
  let body : List Word :=
    [id, 100, 0, 64, 1, 0x0704] ++ List.replicate 9 0 ++ [0, 120, 30, 1] ++ List.replicate 7 0
      ++ [0, 1, 0, 0x0100, rate, 60, 0, 0] ++ List.replicate 28 0
  body ++ [crc (0xFFFF :: body)]

/-- The sample with books in both slots, slot B in force. -/
def books (a b : List Word) : State :=
  { sample with
    mem := (Memory.writeAll [] (runWrites 2 a)).writeAll (runWrites 8194 b)
    tariff.inForce := some .b }

/-- The reason with which a pass over slot A fails. -/
def reasonOf (s : State) (pending : Bool) : Option Nat :=
  match s.validate .a pending with
  | .fails reason => some reason
  | .passes _ => none

set_option maxRecDepth 20000 in
theorem test_validation :
    reasonOf (books (bookWords 5 100) (bookWords 6 100)) true = none
    ∧ reasonOf (books (bookWords 5 100) (bookWords 5 100)) true = some 16
    ∧ reasonOf (books (bookWords 5 100) (bookWords 5 100)) false = none
    ∧ reasonOf (books (bookWords 5 0) []) true = some 13
    ∧ reasonOf (books (bookWords 0 100) []) true = some 3
    ∧ reasonOf (books ((bookWords 5 100).set 62 0) []) true = some 2
    ∧ reasonOf (books [5, 0, 0, 63] []) true = some 1 := by decide +kernel

/-- Slot A, pending, holds the effective minute 100, and nothing else. -/
def pendingBook (x : SaleState) : State :=
  { sample with
    mem := Memory.writeAll [] [(4, 100), (6, 0)]
    tariff.inForce := some .b, tariff.pendingSlot := some .a, sale.state := x }

theorem test_minuteMark_books :
    (after .minuteMark (pendingBook .idle)).tariff.change = some .toActivate
    ∧ (after .minuteMark (pendingBook .opened)).tariff.due = true
    ∧ (after .minuteMark (pendingBook .opened)).fault.sources.book.notice = 2
    ∧ (after .minuteMark { pendingBook .opened with tariff.due := true }).fault.sources.book.notice = 0
    ∧ (after .minuteMark { sample with time.minute := 1439 }).tariff.checkDue = true
    ∧ (after .minuteMark { sample with time.minute := 1438 }).tariff.checkDue = false := by decide +kernel

/-- A marking or erase of slot A in flight, for a use, with a session in a state. -/
def flashing (use : FlashUse) (x : SessionState) (v : Word) : State :=
  { pendingBook .idle with
    flash := { fbusy := true, op := some (.program 0 v) }
    tariff.session := { state := x, slot := .a, keyLost := false, waits := [] }
    tariff.prog := { job := some { op := .program 0 v, use := use }, waitsFbusy := false, timer := some 0
                     jobs := [] } }

/-- Step 1 of the changeover of slot A has failed, and waits for the next minute mark. -/
def retrying (x : SaleState) : State := { pendingBook x with tariff.due := true, tariff.retry := true }

theorem test_minuteMark_retry :
    (after .minuteMark (retrying .idle)).tariff.change = some .toActivate
    ∧ (after .minuteMark (retrying .opened)).tariff.change = none
    ∧ (after .minuteMark (retrying .opened)).tariff.retry = false
    ∧ (after .minuteMark (retrying .opened)).fault.sources.book.notice = 2
    ∧ (retrying .idle).beginChangeover.tariff.change = none
    ∧ (after .flashOpEnd
        { flashing .changeActive .closed 0x0FF0 with tariff.change := some .activating }).tariff.retry = true := by decide +kernel

/-- What follows the end of the operation: the session, the next job's use, and the answer. -/
def followed (s : State) : SessionState × Option FlashUse × Word :=
  let t := after .flashOpEnd s
  (t.tariff.session.state, t.tariff.prog.job.map FlashJob.use, t.tariff.bookCmd)

set_option maxRecDepth 20000 in
theorem test_flashOutcomes_loaded :
    followed { flashing .endLoaded .ending 0x3FFF with mem := (books (bookWords 5 100) []).mem }
        = (.ending, some .endValid, 0)
    ∧ followed (flashing .endLoaded .ending 0x3FFF) = (.ending, some (.endReject 20 (some 1)), 0) := by
  decide +kernel

theorem test_flashOutcomes_install :
    followed (flashing .beginErase .erasing 0x7FFF) = (.erasing, some .beginMark, 0)
    ∧ followed (flashing .beginMark .erasing 0x7FFF) = (.opened, none, 16)
    ∧ followed (flashing (.beginReject 21) .erasing 0) = (.closed, none, 21)
    ∧ followed (flashing .endValid .ending 0x1FFF) = (.closed, none, 16)
    ∧ followed (flashing (.endReject 20 (some 13)) .ending 0) = (.closed, none, 20)
    ∧ followed (flashing .abortRequest .opened 0) = (.closed, none, 16)
    ∧ followed (flashing (.abortMark true) .opened 0) = (.closed, none, 0)
    ∧ followed (flashing .cancelMark .closed 0x07FF) = (.closed, none, 16) := by decide +kernel

/-- What follows the end of a changeover's marking: its stage, the slots in force and stale, and whether a waiting
OPEN has been taken. -/
def changedOver (s : State) : Option ChangeStage × Option BookSlot × Option BookSlot × Bool :=
  let t := after .flashOpEnd { s with sale.waitOpen := true }
  (t.tariff.change, t.tariff.inForce, t.tariff.stale, t.sale.waitOpen)

theorem test_flashOutcomes_change :
    changedOver { flashing .changeActive .closed 0x0FFF with tariff.change := some .activating }
        = (some .toRetire, some .b, none, true)
    ∧ changedOver { flashing .changeActive .closed 0x0FF0 with tariff.change := some .activating }
        = (none, some .b, none, false)
    ∧ changedOver { flashing (.changeRetire .b) .closed 0 with tariff.change := some .retiring }
        = (some .toFill, some .a, none, true)
    ∧ changedOver { flashing (.staleRetire .a) .closed 0x07FF with tariff.stale := some .a }
        = (none, some .b, none, true) := by decide +kernel

/-- The marking of start-up step 2 for a use, at a stage, with a word in slot B's state word. -/
def settling (use : FlashUse) (stage : BookStage) (b : Word) : State :=
  within (.books stage) { flashing use .closed 0 with
    mem := Memory.writeAll [] [(8192, b)]
    tariff.inForce := none, tariff.pendingSlot := none, sale := SaleUnit.reset }

/-- The point of step 2 after the end of the marking, with the slot stale and the details of the records. -/
def settledAt (c : Instr) (s : State) : StartPhase × Option BookSlot × List Word :=
  let t := after c s
  (t.start.phase, t.tariff.stale, t.fault.list.map FaultRecord.detail)

theorem test_booksSettled :
    settledAt .flashOpEnd (settling .startReject (.rejecting [.b]) 0x7FFF) = (.books (.rejecting []), none, [])
    ∧ settledAt .flashOpEnd (settling (.startRetire .a) (.rejecting [.b]) 0x3FFF)
        = (.books (.rejecting []), some .a, [])
    ∧ settledAt .flashOpEnd (settling (.startRejectPending 13) (.pendings [.b]) 0x1FFF)
        = (.books (.pendings []), none, [13])
    ∧ settledAt (.flashWaitLimit [0xFFFF]) (settling .startReject (.rejecting [.b]) 0x7FFF)
        = (.books (.rejecting []), none, [0]) := by decide +kernel

/-- Slot B, in force, holds a book. -/
def inForce : State := { books [] (bookWords 6 100) with tariff.pendingSlot := none }

set_option maxRecDepth 20000 in
theorem test_fillAndCheckThatPass :
    (after .changeover { inForce with tariff.change := some .toFill }).tariff.cache.map BookCache.id = some 6
    ∧ (after .dailyCheck { stopped inForce [.tariffBad] with
        tariff.checkDue := true, tariff.stale := some .a }).fault.stop = [] := by decide +kernel

/-- A book with one word of its body changed, its check word over the body as changed. -/
def altered (k : Nat) (w : Word) : List Word :=
  let body := ((bookWords 5 100).take 62).set (k - 1) w
  body ++ [crc (0xFFFF :: body)]

set_option maxRecDepth 20000 in
theorem test_validation_directoryAndSection :
    reasonOf (books (altered 5 9) []) true = some 4
    ∧ reasonOf (books (altered 6 0x0804) []) true = some 5
    ∧ reasonOf (books (altered 6 0x070F) []) true = some 4
    ∧ reasonOf (books (altered 34 0x0001) []) true = some 15 := by decide +kernel

/-- The first faulty check of the section of such a book. -/
def faulty (k : Nat) (w : Word) : Option (Nat × Bool) :=
  (sectionChecks (fun n => ((0 : Word) :: ((bookWords 5 100).take 62).set (k - 1) w).getD n 0) 16).find? (·.2)

theorem test_sectionChecks :
    faulty 18 30 = none ∧ faulty 17 1441 = some (6, true) ∧ faulty 16 4 = some (7, true)
    ∧ faulty 20 1 = some (8, true) ∧ faulty 27 17 = some (9, true) ∧ faulty 28 13 = some (10, true)
    ∧ faulty 29 1 = some (11, true) ∧ faulty 30 0x0400 = some (12, true) ∧ faulty 32 0 = some (13, true)
    ∧ faulty 33 0x6500 = some (14, true) ∧ faulty 34 1 = some (15, true) := by decide +kernel

/-! ## Resets and start-up -/

/-- Events from outside go on in the flash and the timebase, though a reset cuts the work they began. -/
theorem test_resets_afterEvents :
    (after (.hostReset (.during .flashOpEnd 0)) (programming false 3)).word 8194 = 0x00F0
    ∧ (after (.hostReset (.during .flashOpEnd 0)) (programming false 3)).flash.fbusy = false
    ∧ (after (.hostReset (.during (.flashWaitLimit [9]) 0)) (programming false 0)).flash.fbusy = true
    ∧ (after (.hostReset (.during (.fbusyDeasserted [9]) 0)) (programming true 3)).flash.fbusy = false
    ∧ (after (.hostReset (.during .minuteMark 0)) sample).time.minute = 2000001
    ∧ (after (.powerOn (.during .minuteMark 0)) sample).time.minute = 0 := by decide +kernel

/-- A reset cuts a close step short after two of its words. -/
theorem test_resets :
    (after (.powerOn (.during .closeStep 2)) (inClose 3)).mem.length
        = (after .closeStep (inClose 3)).mem.length
    ∧ (after (.hostReset (.during .closeStep 0)) (inClose 3)).mem = []
    ∧ (after (.hostReset .nothing) sample).time.minute = 2000000
    ∧ (after (.powerOn .nothing) sample).time.minute = 0
    ∧ (inClose 3).start.phase = .done := by decide +kernel

/-- A configuration record with the sample's map; its first word is 4842h in a good one. -/
def configWords (mark : Word) : List Word :=
  let body : List Word :=
    [mark, 0, 0x80, 0x100, 0x80, 0, 0x81, 0, 0x82, 0, 0, 5, 10, 20, 50, 100, 200, 0, 0, 40, 2000, 80, 3,
     3, 20, 8, 50, 4, 7, 0x1237] ++ List.replicate 97 2
  body ++ [crc body]

/-- A part held in reset with a configuration record. -/
def holding (mark : Word) : State :=
  { State.reset with mem := Memory.writeAll [] (runWrites 0x7FF000 (configWords mark)) }

/-- The same, waiting for FBUSY. -/
def forFbusy (mark : Word) (limit : Nat) : State :=
  { holding mark with
    start := { phase := .waitFbusy, fbusyLimit := some limit }, flash := { fbusy := true, op := none } }

set_option maxRecDepth 20000 in
theorem test_configuration_good :
    (after .startUp (holding 0x4842)).start.phase = .waitLines
    ∧ ((holding 0x4842).takeConfig (configWords 0x4842)).path.ready = startImages.map ReadyItem.image := by
  decide +kernel

set_option maxRecDepth 20000 in
theorem test_configuration_bad :
    (after .startUp (holding 0)).path.mode = .transparent
    ∧ (after .startUp { holding 0 with flash.fbusy := true }).start.fbusyLimit = some 1000
    ∧ (after .fbusyWaitLimit (forFbusy 0 0)).path.mode = .transparent
    ∧ (after .fbusyWaitLimit (forFbusy 0 1)).start.phase = .waitFbusy
    ∧ (after (.fbusyDeasserted []) (forFbusy 0 5)).path.mode = .transparent
    ∧ (after .startUp sample).start.phase = .done := by decide +kernel

/-- The sample at start-up, with words in the ROLL or CASH window. -/
def starting (a : Nat) (ws : List Word) : State :=
  { sample with path.mode := .starting, mem := Memory.writeAll [] (runWrites a ws) }

/-- A good roll header and head and tail cells. -/
def header (good : Bool) (h t : Word) : State :=
  let words := rollHeader 2 9 0x12345
  let s := starting 0x820000 (if good then words else words.set 15 0)
  { s with mem := s.mem.writeAll [(0x820000 + 2 * 69648, h), (0x820000 + 2 * 69649, t),
    (0x820000 + 2 * (69664 + 24 * 3) + 2, 0x2345), (0x820000 + 2 * (69664 + 24 * 3) + 4, 1),
    (0x820000 + 2 * (69664 + 24 * 3) + 6, 16)] }

set_option maxRecDepth 20000 in
theorem test_rollHeader :
    (header true 3 4).checkRollHeader.permit.recordCount = 9
    ∧ (header false 3 4).checkRollHeader.permit.lastSeq = 0x12345
    ∧ (header false 3 3).checkRollHeader.permit.headerGood = false
    ∧ (header false 32 4).checkRollHeader.fault.stop = [.rollDown] := by decide +kernel

theorem test_queueLoaded :
    (header true 4 4).resumeQueue.permit.head = 4
    ∧ (header true 40 40).resumeQueue.driven.length = 2
    ∧ { header true 3 4 with permit.headerGood := true, permit.lastSeq := 0x12345 }.resumeQueue.permit.head
        = 4 := by decide +kernel

/-- The entry at the head as a reset found it in hand, in start-up step 9. -/
def resumed (op n allowance : Word) : State :=
  let s := applying op n allowance
  { within .waitLines s with
    mem := s.mem.writeAll [(0x820000 + 2 * 69648, 3), (0x820000 + 2 * 69649, 5)]
    permit := { s.permit with lock := { holder := none, waiters := [] }, amend := .idle }
    sale := SaleUnit.reset }

/-- The result that restart mode gives, and the head. -/
def resumedAs (s : State) : Word × BitVec 5 := (s.resumeQueue.word (s.entryAddr 3 + 6), s.resumeQueue.permit.head)

set_option maxRecDepth 20000 in
theorem test_restart_tested :
    resumedAs (resumed 6 1 1) = (21, 4)
    ∧ resumedAs { resumed 1 5 1 with permit.headerGood := false } = (22, 4)
    ∧ resumedAs (resumed 1 5 0) = (20, 4) ∧ (resumed 1 5 0).driven = [] := by decide +kernel

set_option maxRecDepth 20000 in
/-- A DELETE without a target. -/
theorem test_restart_delete : ((resumed 4 0x805 1).walkFor true 0x805).finish = .absent := by decide +kernel

/-- The slot that the walk of restart mode finds for the entry at the head. -/
def targeted (op n : Word) : Option Nat :=
  match ((resumed op n 1).walkFor true (n.setWidth 32)).finish with
  | .target _ k => some k
  | _ => none

set_option maxRecDepth 20000 in
/-- An ADD in place, a REPLACE of an equal REVOKED record, a REVOKE, and an ADD with room. -/
theorem test_restart_targets :
    targeted 1 0x205 = some 0 ∧ sameFields (resumed 1 0x205 1).headImage ((resumed 1 0x205 1).slotWords 5 0) = true
    ∧ targeted 2 0x605 = some 2
    ∧ sameFields (resumed 2 0x605 1).headImage ((resumed 2 0x605 1).slotWords 5 2) = true
    ∧ targeted 3 0x405 = some 1 ∧ ((resumed 1 0x805 1).walkFor true 0x805).finish = .absent
    ∧ ((resumed 1 6 1).walkFor true 6).finish = .failed 6 := by decide +kernel

/-- A closing intent in a state, with a kind and a step done. -/
def intent (state kind done : Word) : State := starting (0x810000 + 64) [state, done, 7, 0, kind, 0xFFFF, 0]

/-- How many words the replay of an intent writes, and the details of its records. -/
def replayOf (s : State) : Nat × List Word :=
  (s.replayIntent.driven.length, s.replayIntent.fault.list.map FaultRecord.detail)

theorem test_replay :
    replayOf (intent 0 1 0) = (0, []) ∧ replayOf (intent 2 1 0) = (1, [])
    ∧ replayOf (intent 1 0 0) = (1, [0x800]) ∧ replayOf (intent 1 4 0) = (1, [0x800])
    ∧ replayOf (intent 1 1 5) = (5, [0x105]) ∧ replayOf (intent 1 2 6) = (1, [0x206])
    ∧ replayOf (intent 1 3 3) = (4, [0x303]) ∧ replayOf (intent 1 3 4) = (1, [0x304])
    ∧ (replayOf (intent 1 3 5)).2 = [0x305] ∧ (replayOf (intent 1 1 7)).2 = [0x107] := by decide +kernel

/-- The cash records of a part whose next sequence is 7, with a sale state and number in the sale record. -/
def recovering (state number : Word) : State :=
  let p : PeriodRecord := { PeriodRecord.zero with number := 4 }
  let s := starting 0x810000 (Tally.zero.words ++ [7, 0, 5, 0, 0, 4, 1])
  { s with
    mem := (s.mem.writeAll (runWrites (0x810000 + 2 * 1184) p.words)).writeAll
      [(0x800002, state), (0x800004, number)]
    sale := SaleUnit.reset, cash := CashUnit.reset }

/-- The state and number of the sale recovered, with the details of the records. -/
def recovered (s : State) : SaleState × DWord × List Word :=
  (s.recoverSale.sale.state, s.recoverSale.sale.number, s.recoverSale.fault.list.map FaultRecord.detail)

set_option maxRecDepth 20000 in
theorem test_saleRecovered :
    recovered (recovering 0 6) = (.idle, 6, []) ∧ recovered (recovering 4 6) = (.closed, 6, [])
    ∧ recovered (recovering 5 6) = (.void, 6, []) ∧ recovered (recovering 1 7) = (.voiding, 7, [0x400])
    ∧ recovered (recovering 1 6) = (.idle, 6, [0x900]) ∧ recovered (recovering 2 7) = (.voiding, 7, [0x400])
    ∧ (recovering 1 7).cash.close = none ∧ (recovering 1 7).cash.waiting = []
    ∧ (recovering 1 7).driven = [] := by decide +kernel

/-- The recovering state with one more word in the sale record. -/
def recoveringWith (state number a w : Word) : State :=
  let s := recovering state number
  { s with mem := s.mem.writeAll [(0x800000 + 2 * a.toNat, w)] }

set_option maxRecDepth 20000 in
theorem test_saleRecovered_outsideCodes :
    (recoveringWith 5 6 22 5).recoverSale.sale.voidReason = .restart
    ∧ (recoveringWith 5 6 22 6).recoverSale.sale.voidReason = .none
    ∧ { recoveringWith 1 7 14 16 with
        mem := (recoveringWith 1 7 14 16).mem.writeAll [(0x800020, 0x0102)] }.permitCells.map PermitInUse.category
        = some 2 := by decide +kernel

/-- A sale record COMMITTING whose journal entry is whole is CLOSED. -/
def filed : State :=
  let s := recovering 2 6
  let body : List Word := [6, 0, 1] ++ List.replicate 20 0
  { s with mem := s.mem.writeAll (runWrites (0x810000 + 2 * (1248 + 24 * 6)) (body ++ [crc body])) }

set_option maxRecDepth 20000 in
theorem test_saleRecovered_byItsEntry : recovered filed = (.closed, 6, [0x700]) := by decide +kernel

/-- The mirrors at start-up, with DOOR and BOX. -/
def mirrored (c flag owed : Word) (door box : Bool) : State :=
  { starting (0x810000 + 38) [c, flag, 0, owed] with
    lines.door.level := some door, lines.box.level := some box, tariff.cache := some book
    permit.headerGood := true }

/-- The compartment state and the stop set after steps 7 and 8. -/
def derived (s : State) : Compartment × List Condition :=
  (s.rebuildStops.deriveCompartment.cash.compartment, s.rebuildStops.deriveCompartment.fault.stop)

theorem test_derived :
    derived (mirrored 2 0 0 true true) = (.opened, [.doorOpen])
    ∧ derived (mirrored 2 0 0 true false) = (.boxOut, [.boxAbsent, .doorOpen])
    ∧ derived (mirrored 3 0 0 true true) = (.refilled, [.doorOpen])
    ∧ derived (mirrored 6 1 0 true true) = (.breached, [.intrusion])
    ∧ derived (mirrored 7 0 0 true true) = (.breached, [.intrusion])
    ∧ derived (mirrored 1 0 0 false true) = (.sealed, [])
    ∧ derived (mirrored 6 1 0 false false) = (.sealedEmpty, [.boxAbsent, .intrusion])
    ∧ (mirrored 1 0 0 false true).sale.state ≠ .opened ∧ (mirrored 1 0 0 false true).driven = [] := by
  decide +kernel

/-- A word that the row has driven before. -/
def driving (s : State) : State := { s with driven := [(0x810040, 1)] }

set_option maxRecDepth 20000 in
/-- The words of steps 3 to 9 of start-up follow those of the row. -/
theorem test_startUp_drivenBefore :
    ([(driving (header false 3 4)).checkRollHeader, (driving (resumed 1 5 0)).resumeQueue,
        { driving (header true 40 40) with sale := selling.sale }.resumeQueue,
        (driving (intent 1 3 4)).replayIntent, (driving (recovering 1 7)).recoverSale,
        (driving (mirrored 2 0 0 true true)).deriveCompartment].map
          fun s => (s.driven.length, s.driven.getLast?))
      = [17, 20, 3, 2, 130, 4].map fun n => (n, some (0x810040, 1)) := by decide +kernel

/-- Start-up waits for the lines, DOOR alone unsettled. -/
def waitsForLines (owed : Word) : State :=
  { mirrored 0 0 owed false true with
    start.phase := .waitLines, lines.settleLimit := some 0
    lines.door := { raw := false, level := none, timer := some 0 } }

theorem test_startUpEnds :
    (after .lineSettleLimit (waitsForLines 0)).start.phase = .waitOwed
    ∧ (after (.lineSettled .door) (waitsForLines 1)).start.phase = .waitPeriod
    ∧ (after .pathRunning { sample with path.mode := .starting, start.phase := .waitOwed }).path.mode = .running
    ∧ (after .pathRunning { held .empty with path.mode := .starting, start.phase := .waitOwed }).path.mode
        = .starting := by decide +kernel

end Sys2Proof.Tests
end

section
/-! SUPPORT. The parts of a row in which a unit takes a request: how their effects follow each other, what
each shared operation does as such a part, and what the whole row comes to (R29, R35, R36, R40). -/

namespace Sys2Proof.Machine

/-! ## Frames of the parts of a row -/

theorem State.Same.trans {s t u : State} {p : Part} (h : s.Same t p) (k : t.Same u p) : s.Same u p := by
  cases p with
  | tariff =>
    have hu : u.tariff = { t.tariff with engine := u.tariff.engine } := k
    have ht : t.tariff = { s.tariff with engine := t.tariff.engine } := h
    show u.tariff = { s.tariff with engine := u.tariff.engine }
    rw [hu, ht]
  | _ => exact Eq.trans k h

theorem State.Owes.refl (s : State) : s.Owes s [] :=
  ⟨by simp, by simp, fun _ hx _ => hx⟩

/-- A part of a row that owes nothing leaves the slot as it was. -/
@[simp] theorem State.slotAfter_none_nil (s : State) : s.slotAfter none [] = s.path.slot := by
  unfold State.slotAfter
  cases s.path.slot <;> simp

theorem State.slotAfter_congr {s t : State} (h : t.path.slot = s.path.slot) (w : Option (BitVec 23))
    (gs : List Group) : t.slotAfter w gs = s.slotAfter w gs := by
  unfold State.slotAfter
  rw [h]

theorem State.EffectMore.refl (s : State) (changed : List Part) : s.EffectMore s [] changed [] :=
  ⟨Owes.refl s, s.slotAfter_none_nil.symm, ⟨rfl, stored_of_mem rfl⟩, fun p _ => by cases p <;> rfl⟩

/-- A part of a row that owes nothing, followed by one that may owe. -/
theorem State.EffectMore.trans {s t u : State} {gs : List Group} {changed : List Part}
    {ws vs : List (Nat × Word)} (h : s.EffectMore t [] changed ws) (k : t.EffectMore u gs changed vs) :
    s.EffectMore u gs changed (ws ++ vs) := by
  obtain ⟨⟨owedT, -, keptT⟩, slotT, wroteT, sameT⟩ := h
  obtain ⟨⟨owedU, readyU, keptU⟩, slotU, wroteU, sameU⟩ := k
  rw [slotAfter_none_nil] at slotT
  refine ⟨⟨fun g => ?_, readyU, fun x hx hg => keptU x (keptT x hx (by simp)) hg⟩, ?_,
    wroteT.trans wroteU, fun p hp => (sameT p hp).trans (sameU p hp)⟩
  · rw [owedU, owedT]; simp
  · rw [slotU, slotAfter_congr slotT]

/-! ## The shared operations as parts of a row -/

/-- The cash unit's registers change. -/
theorem State.effectMore_cash (s : State) (c : CashUnit) {changed : List Part} (hc : .cash ∈ changed) :
    s.EffectMore { s with cash := c } [] changed [] := by
  refine ⟨Owes.refl s, s.slotAfter_none_nil.symm, ⟨rfl, stored_of_mem rfl⟩, fun p hp => ?_⟩
  cases p with
  | cash => exact absurd (List.mem_append_right _ hc) hp
  | _ => rfl

/-- A word is written through the memory port. -/
theorem State.effectMore_put (s : State) (a : Nat) (w : Word) (changed : List Part) :
    s.EffectMore (s.put a w) [] changed [(a, w)] :=
  ⟨Owes.refl s, s.slotAfter_none_nil.symm, ⟨rfl, stored_of_mem rfl⟩, fun p _ => by cases p <;> rfl⟩

/-- The fault unit changes, and images are asked for. -/
theorem State.FaultOnly.effectMore {s t : State} (h : s.FaultOnly t) {changed : List Part}
    (hc : .fault ∈ changed) : s.EffectMore t [] changed [] := by
  obtain ⟨f, r, rfl⟩ := h
  refine ⟨⟨by simp, by simp, fun x hx _ => List.mem_append_left r hx⟩, s.slotAfter_none_nil.symm,
    ⟨rfl, stored_of_mem rfl⟩, fun p hp => ?_⟩
  cases p with
  | fault => exact absurd (List.mem_append_right _ hc) hp
  | ready => simp at hp
  | _ => rfl

/-- The slot after one group has entered the pending set (R40). -/
theorem State.reowe_slot (s : State) (g : Group) : s.path.slot.reowe g = s.slotAfter none [g] := by
  unfold DelayedSlot.reowe State.slotAfter
  cases s.path.slot <;> simp

theorem State.mem_mark_owed (s : State) (g x : Group) :
    x ∈ (s.mark g).path.owed ↔ x ∈ s.path.owed ∨ x ∈ [g] := by
  unfold State.mark
  dsimp only
  split
  · next h => exact ⟨Or.inl, fun hx => hx.elim id fun hx => List.mem_singleton.mp hx ▸ h⟩
  · exact List.mem_append

/-- Work done at once: the group is owed, and ready unless more is owed into it (R36). -/
theorem State.effectMore_answer (s : State) (g : Group) (changed : List Part) :
    s.EffectMore (s.answer g) [g] changed [] := by
  obtain ⟨owed, slot⟩ :
      (s.answer g).path.owed = (s.mark g).path.owed ∧ (s.answer g).path.slot = (s.mark g).path.slot := by
    unfold State.answer State.report; split <;> exact ⟨rfl, rfl⟩
  have busy : (s.answer g).busy g = (s.mark g).busy g := by
    unfold State.answer State.report; split <;> rfl
  refine ⟨⟨fun x => by rw [owed, s.mem_mark_owed], fun x hx idle => ?_, fun x hx _ => ?_⟩,
    slot.trans (s.reowe_slot g), ⟨by simp, stored_of_mem (by simp [Memory.writeAll])⟩, fun p hp => ?_⟩
  · obtain rfl := List.mem_singleton.mp hx
    have owes : x ∈ (s.mark x).path.owed := (s.mem_mark_owed x x).mpr (.inr hx)
    rw [busy] at idle
    unfold State.answer State.report
    split
    · simp
    · next h => exact Classical.byContradiction fun no => h ⟨owes, idle, no⟩
  · have kept : x ∈ (s.mark g).path.ready := hx
    unfold State.answer State.report
    split
    · exact List.mem_append_left _ kept
    · exact kept
  · unfold State.answer State.report
    cases p with
    | owed | ready | slot => simp at hp
    | _ => split <;> rfl

/-! ## The row of a request -/

/-- A host write unlatches its word, which is all that it does to the slot before groups are owed (R40). -/
theorem State.unlatch_eq (s : State) (w : BitVec 23) :
    s.unlatch w = { s with path.slot := s.slotAfter (some w) [] } := by
  have kept {slot : DelayedSlot} (h : s.path.slot = slot) : s = { s with path.slot := slot } := by rw [← h]
  unfold State.unlatch State.slotAfter
  cases h : s.path.slot with
  | empty => exact kept h
  | waiting read =>
    by_cases hw : read.word = w
    · simp [hw]
    · simpa [hw] using kept h
  | complete read value timer =>
    by_cases hw : read.word = w
    · simp [hw]
    · simpa [hw] using kept h

/-- The state in which a unit takes a request: its group is owed and the word has reached memory (R29). -/
theorem State.accepted_of_group (s : State) {c : Cell} {g : Group} (hg : c.group = some g) (v : Word) :
    s.accepted c v = ((s.unlatch (s.cellAddr c)).writeThrough (s.cellAddr c) true true v).owe g := by
  unfold State.accepted State.oweAt
  rw [show groupAt c.place = some g from hg]

/-- The slot a unit finds, and what follows from it for the groups of the whole row (R40). -/
theorem State.slotAfter_request (s t : State) (w : BitVec 23) {g : Group} {gs : List Group} (hg : g ∈ gs)
    (ht : t.path.slot = (s.slotAfter (some w) []).reowe g) :
    t.slotAfter none gs = s.slotAfter (some w) gs := by
  unfold State.slotAfter at ht ⊢
  rw [ht]
  cases s.path.slot with
  | empty => rfl
  | waiting read =>
    by_cases hw : read.word = w <;> simp [hw, DelayedSlot.reowe]
  | complete read value timer =>
    by_cases hw : read.word = w
    · simp [hw, DelayedSlot.reowe]
    · by_cases hr : read.group = g
      · simp [hw, hr, hg, DelayedSlot.reowe]
      · simp [hw, hr, DelayedSlot.reowe]

section
variable (s : State) {c : Cell} {g : Group} (hc : c.group = some g) (v : Word)
include hc

theorem State.mem_accepted_owed (x : Group) :
    x ∈ (s.accepted c v).path.owed ↔ x ∈ s.path.owed ∨ x = g := by
  rw [s.accepted_of_group hc, s.unlatch_eq]
  exact (State.mem_mark_owed _ g x).trans (or_congr_right List.mem_singleton)

theorem State.mem_accepted_ready {x : ReadyItem} (hx : x ∈ s.path.ready) (hg : x ≠ .group g) :
    x ∈ (s.accepted c v).path.ready := by
  rw [s.accepted_of_group hc, s.unlatch_eq]
  exact List.mem_filter.mpr ⟨hx, by simpa using hg⟩

theorem State.accepted_slot :
    (s.accepted c v).path.slot = (s.slotAfter (some (s.cellAddr c)) []).reowe g := by
  rw [s.accepted_of_group hc, s.unlatch_eq]
  rfl

theorem State.accepted_driven {m : WindowMap} (hm : s.Runs m) :
    (s.accepted c v).driven = (s.cellByte c, v) :: s.driven := by
  have merge (x : Word) : mergeBytes x v true true = v := Memory.mkWord_bytes v
  rw [s.accepted_of_group hc, s.unlatch_eq, ← s.cellAddr_toNat hm]
  unfold State.writeThrough State.putBytes
  rw [merge]
  rfl

end

/-- The host's word is in memory when the unit takes the request. -/
theorem State.accepted_mem (s : State) (c : Cell) (v : Word) {m : WindowMap} (hm : s.Runs m) :
    (s.accepted c v).mem = s.mem.writeWord (s.cellByte c) v := by
  obtain ⟨p, mem, d, eq, hmem, -⟩ := s.accepted_eq c v
  rw [eq, ← s.cellAddr_toNat hm]
  exact hmem

theorem State.accepted_reply (s : State) (c : Cell) (v : Word) :
    (s.accepted c v).path.reply = { term := .ready, data := .none } := by
  obtain ⟨p, m, d, eq, -, -, -, hreply⟩ := s.accepted_eq c v
  rw [eq]
  exact hreply

/-- Before the unit acts, only the path unit's registers for the access and the group have changed. -/
theorem State.accepted_same (s : State) (c : Cell) (v : Word) {q : Part} (hq : q ∉ [.owed, .ready, .slot, .reply]) :
    s.Same (s.accepted c v) q := by
  obtain ⟨p, m, d, eq, -, hmode, hmap, -⟩ := s.accepted_eq c v
  rw [eq]
  cases q with
  | owed | ready | slot | reply => simp at hq
  | mode => exact hmode
  | map => exact hmap
  | _ => rfl

/-- A row in which a unit takes a request: the unit's part of it follows the host's word. -/
theorem State.took_of_hand {s : State} {c : Cell} {v : Word} {g : Group} {gs : List Group}
    {changed : List Part} {ws : List (Nat × Word)} (h : s.Takes c) (hc : c.group = some g) (hg : g ∈ gs)
    (hr : .reply ∉ changed)
    (e : (s.begin.accepted c v).EffectMore ((s.begin.accepted c v).hand c v) gs changed ws) :
    s.Took (s.begin.hostCell c v) c v gs changed ws := by
  obtain ⟨m, hm⟩ := h.1
  have runs : s.begin.Runs m := hm
  rw [s.begin.hostCell_takes h v, State.rowTo_eq]
  obtain ⟨⟨owed, ready, kept⟩, slot, ⟨driven, mem, -⟩, same⟩ := e
  have reply : ((s.begin.accepted c v).hand c v).path.reply = (s.begin.accepted c v).path.reply :=
    same .reply (by simpa using hr)
  refine ⟨reply.trans (s.begin.accepted_reply c v), ⟨fun x => ?_, ready, fun x hx no => ?_⟩, ?_,
    ⟨?_, State.stored_of_mem ?_⟩, fun q hq => ?_⟩
  · refine (owed x).trans ?_
    rw [s.begin.mem_accepted_owed hc, or_assoc]
    exact or_congr_right ⟨fun hx => hx.elim (· ▸ hg) id, .inr⟩
  · exact kept x (s.begin.mem_accepted_ready hc v hx (no g hg)) no
  · exact slot.trans (State.slotAfter_request s.begin _ _ hg (s.begin.accepted_slot hc v))
  · show ((s.begin.accepted c v).hand c v).driven.reverse = _
    rw [driven, s.begin.accepted_driven hc v runs, List.reverse_append, List.reverse_reverse]
    rfl
  · show ((s.begin.accepted c v).hand c v).mem = _
    rw [mem, s.begin.accepted_mem c v runs]
    rfl
  · simp only [List.cons_append, List.nil_append, List.mem_cons, not_or] at hq
    obtain ⟨noOwed, noReady, noSlot, noReply, unnamed⟩ := hq
    have before := s.begin.accepted_same c v (q := q) (by simp [noOwed, noReady, noSlot, noReply])
    have after := before.trans (same q (by simp [noOwed, noReady, noSlot, unnamed]))
    cases q <;> exact after

end Sys2Proof.Machine
end

section
/-! SUPPORT. What raising a fault without a condition, and removing a condition that does not block COIN, leave
in the fault unit (R153 to R156, R161, R162, R167). -/

namespace Sys2Proof.Machine

theorem State.FaultOnly.cash_eq {s t : State} (h : s.FaultOnly t) : t.cash = s.cash := by
  obtain ⟨f, r, rfl⟩ := h
  rfl

theorem State.raiseSource_fault (s : State) (x : Source) (n : Word) :
    (s.raiseSource x n).fault = { s.fault with sources := s.fault.sources.raised x n } := by
  simp [State.raiseSource, Sources.raised]

/-- The attention of a raising that voids no sale (R156). -/
theorem State.attend_fault (s : State) (cls : FaultClass) (delegate : Bool) (state : SaleState) :
    (s.attend cls delegate state false).fault =
      { s.fault with sources :=
          if delegate = true ∧ state.inProgress = true then s.fault.sources.raised .sale (translated cls false).word
          else s.fault.sources.raised .fault (codeWord cls.code) } := by
  unfold State.attend
  by_cases h : delegate = true ∧ state.inProgress = true
  · rw [if_pos h, if_pos (by simpa using h), raiseSource_fault]
  · rw [if_neg h, if_neg (by simpa using h)]
    exact raiseSource_fault ..

/-- The route of a class that adds no condition (R155). -/
theorem State.applyRoute_fault (s : State) {cls : FaultClass} (h : cls.condition = none) :
    (s.applyRoute cls s.sale.state).fault =
      { s.fault with sources := s.attended cls (translated cls false).word false } := by
  unfold State.applyRoute State.attended
  cases hr : (s.routeOf cls).route with
  | log => simp [hr]
  | attend => simp only [hr]; exact s.attend_fault ..
  | stop => simp only [hr, h]; exact s.attend_fault ..

/-- Storing a record changes the list and the sequence alone (R153, R154). -/
theorem State.storeFault_eq (s : State) (r : FaultRecord) :
    ∃ l n, s.storeFault r = { s with fault.list := l, fault.seq := n } := by
  unfold State.storeFault
  split
  · exact ⟨_, _, rfl⟩
  · exact ⟨addFollower s.fault.list, s.fault.seq, rfl⟩

/-- Raising a fault whose class adds no condition (R153 to R156). -/
theorem State.raise_fault (s : State) {cls : FaultClass} (h : cls.condition = none) (d : Word) :
    (s.raise cls d).fault =
      { s.fault with
        list := (s.raise cls d).fault.list, seq := (s.raise cls d).fault.seq
        sources := s.attended cls (translated cls false).word false } := by
  obtain ⟨l, n, stored⟩ := s.storeFault_eq (s.faultRecord cls 0 d)
  have raised : (s.raise cls d).fault =
      { s.fault with
        list := l, seq := n, sources := s.attended cls (translated cls false).word false } := by
    unfold State.raise State.raiseSub
    rw [stored]
    exact State.applyRoute_fault { s with fault.list := l, fault.seq := n } h
  rw [raised]

/-- What is recorded is read from the fault unit alone (R153, R154). -/
theorem State.Recorded.of_fault {s t u : State} {cls : FaultClass} {sub : Byte} {d : Word}
    (h : s.Recorded u cls sub d) (e : t.fault = u.fault) : s.Recorded t cls sub d := by
  unfold State.Recorded at h ⊢
  rw [e]
  exact h

/-- Removing a condition that does not block COIN takes it from the stop set and asks for its image (R162). -/
theorem State.removeCondition_of_notCoin (s : State) {c : Condition} (h : c.blocksCoin = false) :
    s.FaultOnly (s.removeCondition c)
      ∧ (s.removeCondition c).fault = { s.fault with stop := s.fault.stop.filter (· != c) } := by
  unfold State.removeCondition
  split
  · rw [h]
    exact ⟨((FaultOnly.refl s).fault _).trans (rewrite_faultOnly _ _), by simp⟩
  · next absent =>
    have same : s.fault.stop.filter (· != c) = s.fault.stop :=
      List.filter_eq_self.mpr fun d hd => bne_iff_ne.mpr fun e => absent (e ▸ hd)
    exact ⟨FaultOnly.refl s, by rw [same]⟩

end Sys2Proof.Machine
end

section
/-! SUPPORT. COLLECT_CMD requests: how each is decided, and what the row of one comes to (R137, R143, R145). -/

namespace Sys2Proof.Machine

/-! ## How a request is decided -/

theorem LineRegs.asserted_iff (l : LineRegs) : l.asserted = true ↔ l.level = some true := beq_iff_eq

theorem LineRegs.asserted_false_iff (l : LineRegs) : l.asserted = false ↔ l.level ≠ some true := by
  rw [← Bool.not_eq_true, l.asserted_iff]

/-- The period ring has no free slot (R148). -/
theorem CashUnit.ringFree_false_iff (c : CashUnit) :
    c.ringFree = false ↔ 16 ≤ c.pnext.toNat - 1 - c.pexport.toNat := by
  simp [CashUnit.ringFree]

section
variable {s : State}

theorem State.takeAuthorise_badState (h : s.cash.compartment ≠ .sealed) :
    s.takeAuthorise = s.collectAnswer 18 := if_pos h

theorem State.takeAuthorise_noKey (shut : s.cash.compartment = .sealed) (key : s.lines.key.level ≠ some true) :
    s.takeAuthorise = s.collectAnswer 17 := by
  unfold State.takeAuthorise
  rw [if_neg (not_not_intro shut), if_pos (s.lines.key.asserted_false_iff.mpr key)]

theorem State.takeAuthorise_ringFull (shut : s.cash.compartment = .sealed) (key : s.lines.key.level = some true)
    (full : 16 ≤ s.cash.pnext.toNat - 1 - s.cash.pexport.toNat ∨ s.cash.period.number = 65535) :
    s.takeAuthorise = (s.raise .periodRingFull (loWord s.cash.period.number)).collectAnswer 19 := by
  unfold State.takeAuthorise
  rw [if_neg (not_not_intro shut), if_neg (fun e => s.lines.key.asserted_false_iff.mp e key),
    if_pos (full.imp_left s.cash.ringFree_false_iff.mpr)]

theorem State.takeAuthorise_done (shut : s.cash.compartment = .sealed) (key : s.lines.key.level = some true)
    (free : ¬ (16 ≤ s.cash.pnext.toNat - 1 - s.cash.pexport.toNat ∨ s.cash.period.number = 65535)) :
    s.takeAuthorise = (s.compartmentTo .authorised s.cash.intrusion s.cfg.authTime).collectAnswer 16 := by
  unfold State.takeAuthorise
  rw [if_neg (not_not_intro shut), if_neg (fun e => s.lines.key.asserted_false_iff.mp e key),
    if_neg (fun e => free (e.imp_left s.cash.ringFree_false_iff.mp))]

theorem State.takeClearIntrusion_badState (h : ¬ (s.cash.compartment = .sealed ∧ s.cash.intrusion = true)) :
    s.takeClearIntrusion = s.collectAnswer 18 := by
  unfold State.takeClearIntrusion
  rw [if_pos ((Classical.not_and_iff_not_or_not.mp h).imp_right Bool.eq_false_iff.mpr)]

theorem State.takeClearIntrusion_noKey (shut : s.cash.compartment = .sealed) (flag : s.cash.intrusion = true)
    (key : s.lines.key.level ≠ some true) : s.takeClearIntrusion = s.collectAnswer 17 := by
  unfold State.takeClearIntrusion
  rw [if_neg (by simp [shut, flag]), if_pos (s.lines.key.asserted_false_iff.mpr key)]

theorem State.takeClearIntrusion_done (shut : s.cash.compartment = .sealed) (flag : s.cash.intrusion = true)
    (key : s.lines.key.level = some true) :
    s.takeClearIntrusion =
      ((s.compartmentTo .sealed false s.cash.authCount).removeCondition .intrusion).collectAnswer 16 := by
  unfold State.takeClearIntrusion
  rw [if_neg (by simp [shut, flag]), if_neg (fun e => s.lines.key.asserted_false_iff.mp e key)]

theorem State.takeCollect_unknown (s : State) {v : Word} (h : (Instr.collectCmdUnknown v).wellFormed = true) :
    s.takeCollect v = s.collectAnswer 20 := by
  have range : v.toNat = 0 ∨ 2 < v.toNat := by simpa [Instr.wellFormed] using h
  unfold State.takeCollect
  split
  · omega
  · omega
  · rfl

end

/-! ## The parts of its row -/

/-- The answer to a request is the last part of its row. -/
theorem State.effectMore_collectAnswer (s : State) (code : Word) {changed : List Part} (hc : .cash ∈ changed) :
    s.EffectMore (s.collectAnswer code) [.collectResp] changed [] :=
  (s.effectMore_cash { s.cash with collectCmd := code } hc).trans (State.effectMore_answer _ _ _)

/-- With the window map loaded, a word's address does not depend on memory (R25). -/
theorem State.at_congr {s t : State} {m : WindowMap} (h : s.path.map = some m) (same : t.path.map = s.path.map)
    (w : Window) (k : Nat) : t.at w k = s.at w k := by
  unfold State.at State.base
  rw [same, h]

theorem State.mirrorWrites_congr {s t : State} {m : WindowMap} (h : s.path.map = some m)
    (same : t.path.map = s.path.map) (c : CashUnit) : t.mirrorWrites c = s.mirrorWrites c := by
  unfold State.mirrorWrites
  simp only [State.at_congr h same]

/-- A word of a window is written at its address, which the word does not move. -/
theorem State.effectMore_putCell {s t : State} {m : WindowMap} (h : s.path.map = some m)
    (same : t.path.map = s.path.map) (w : Window) (k : Nat) (v : Word) (changed : List Part) :
    t.EffectMore (t.putCell w k v) [] changed [(s.at w k, v)] := by
  rw [← State.at_congr h same]
  exact t.effectMore_put _ v changed

/-- The three mirrors are written one after the other (R137). -/
theorem State.effectMore_putMirrors {s : State} {m : WindowMap} (h : s.path.map = some m) (changed : List Part) :
    s.EffectMore s.putMirrors [] changed (s.mirrorWrites s.cash) := by
  unfold State.putMirrors
  have state := State.effectMore_putCell h rfl .cash 19 (codeWord s.cash.compartment.code) changed
  generalize ht : s.putCell .cash 19 (codeWord s.cash.compartment.code) = t at state ⊢
  have mapT : t.path.map = s.path.map := by rw [← ht]; rfl
  have flag := State.effectMore_putCell h mapT .cash 20 (flagWord s.cash.intrusion) changed
  generalize hu : t.putCell .cash 20 (flagWord s.cash.intrusion) = u at flag ⊢
  have mapU : u.path.map = s.path.map := by rw [← hu]; exact mapT
  exact (state.trans flag).trans (State.effectMore_putCell h mapU .cash 21 (codeWord s.cash.authCount) changed)

theorem State.compartmentTo_fault (s : State) (c : Compartment) (flag : Bool) (count : Nat) :
    (s.compartmentTo c flag count).fault = s.fault := by
  unfold State.compartmentTo
  split <;> rfl

/-- A change of state, flag or count is written to the mirrors (R137). -/
theorem State.compartmentTo_of_change {s : State} {m : WindowMap} (h : s.path.map = some m)
    (c : Compartment) (flag : Bool) (count : Nat)
    (moved : ¬ (s.cash.compartment = c ∧ s.cash.intrusion = flag ∧ s.cash.authCount = count))
    {changed : List Part} (hc : .cash ∈ changed) :
    let new := { s.cash with compartment := c, intrusion := flag, authCount := count }
    s.EffectMore (s.compartmentTo c flag count) [] changed (s.mirrorWrites new)
      ∧ (s.compartmentTo c flag count).cash = new := by
  intro new
  unfold State.compartmentTo
  rw [if_neg moved]
  have mirrors := State.effectMore_putMirrors (s := { s with cash := new }) h changed
  have places : ({ s with cash := new } : State).mirrorWrites new = s.mirrorWrites new :=
    State.mirrorWrites_congr h rfl new
  rw [places] at mirrors
  exact ⟨(s.effectMore_cash new hc).trans mirrors, rfl⟩

/-! ## What the unit finds when it takes a request -/

section
variable (s : State) (c : Cell) (v : Word)

@[simp] theorem State.accepted_cash : (s.accepted c v).cash = s.cash := by
  obtain ⟨p, m, d, eq, -⟩ := s.accepted_eq c v
  rw [eq]

@[simp] theorem State.accepted_fault : (s.accepted c v).fault = s.fault := by
  obtain ⟨p, m, d, eq, -⟩ := s.accepted_eq c v
  rw [eq]

@[simp] theorem State.accepted_lines : (s.accepted c v).lines = s.lines := by
  obtain ⟨p, m, d, eq, -⟩ := s.accepted_eq c v
  rw [eq]

@[simp] theorem State.accepted_cfg : (s.accepted c v).cfg = s.cfg := by
  obtain ⟨p, m, d, eq, -⟩ := s.accepted_eq c v
  rw [eq]

@[simp] theorem State.accepted_attended (cls : FaultClass) (n : Word) (voided : Bool) :
    (s.accepted c v).attended cls n voided = s.attended cls n voided := by
  obtain ⟨p, m, d, eq, -⟩ := s.accepted_eq c v
  rw [eq]
  rfl

theorem State.accepted_recorded {t : State} {cls : FaultClass} {sub : Byte} {d : Word} :
    (s.accepted c v).Recorded t cls sub d ↔ s.Recorded t cls sub d := by
  obtain ⟨p, m, d, eq, -⟩ := s.accepted_eq c v
  rw [eq]
  rfl

theorem State.accepted_map : (s.accepted c v).path.map = s.path.map := by
  obtain ⟨p, m, d, eq, -, -, hmap, -⟩ := s.accepted_eq c v
  rw [eq]
  exact hmap

end

/-! ## The row of a request -/

section
variable {s : State} {v code : Word}

/-- A request answered after a part that owes nothing: the row, and the registers after it. -/
theorem State.collect_took (h : s.Takes .collectCmd) {u : State} {changed : List Part}
    {ws : List (Nat × Word)} (hc : .cash ∈ changed) (hr : .reply ∉ changed)
    (decided : (s.begin.accepted .collectCmd v).takeCollect v = u.collectAnswer code)
    (e : (s.begin.accepted .collectCmd v).EffectMore u [] changed ws) :
    let t := s.begin.hostCell .collectCmd v
    s.Took t .collectCmd v [.collectResp] changed ws ∧ t.cash = { u.cash with collectCmd := code }
      ∧ t.fault = u.fault := by
  intro t
  have after : t = s.begin.rowTo (u.collectAnswer code) [] 1 := by
    rw [← decided]
    exact s.begin.hostCell_takes h v
  refine ⟨State.took_of_hand h (g := .collectResp) (by decide) (by simp) hr ?_, ?_, ?_⟩
  · show (s.begin.accepted .collectCmd v).EffectMore ((s.begin.accepted .collectCmd v).takeCollect v) _ _ _
    rw [decided, ← List.append_nil ws]
    exact e.trans (u.effectMore_collectAnswer code hc)
  all_goals rw [after]; simp [State.collectAnswer]

/-- A request answered with nothing else done. -/
theorem State.collect_answered (h : s.Takes .collectCmd)
    (decided : (s.begin.accepted .collectCmd v).takeCollect v = (s.begin.accepted .collectCmd v).collectAnswer code) :
    s.Took (s.begin.hostCell .collectCmd v) .collectCmd v [.collectResp] [.cash] []
      ∧ (s.begin.hostCell .collectCmd v).cash = { s.cash with collectCmd := code } := by
  obtain ⟨took, cash, -⟩ := State.collect_took h (by simp) (by simp) decided (State.EffectMore.refl _ [.cash])
  exact ⟨took, by simpa using cash⟩

/-- AUTHORISE with the ring full raises PERIOD_RING_FULL, which voids nothing (R143, R148). -/
theorem State.authorise_ringFull (h : s.Takes .collectCmd) (shut : s.cash.compartment = .sealed)
    (key : s.lines.key.level = some true)
    (full : 16 ≤ s.cash.pnext.toNat - 1 - s.cash.pexport.toNat ∨ s.cash.period.number = 65535) :
    let t := s.begin.hostCell .collectCmd 1
    s.Took t .collectCmd 1 [.collectResp] [.cash, .fault] [] ∧ t.cash = { s.cash with collectCmd := 19 }
      ∧ s.Recorded t .periodRingFull 0 (loWord s.cash.period.number)
      ∧ t.fault = { s.fault with
          list := t.fault.list, seq := t.fault.seq
          sources := s.attended .periodRingFull 4 false } := by
  intro t
  let a := s.begin.accepted .collectCmd 1
  have decided : a.takeCollect 1 = (a.raise .periodRingFull (loWord a.cash.period.number)).collectAnswer 19 :=
    State.takeAuthorise_ringFull (by simpa [a] using shut) (by simpa [a] using key) (by simpa [a] using full)
  have raised : a.FaultOnly (a.raise .periodRingFull (loWord a.cash.period.number)) :=
    a.raiseSub_faultOnly _ _ _ (.inr fun k hk => nomatch hk)
  obtain ⟨took, cash, fault⟩ :=
    State.collect_took h (changed := [.cash, .fault]) (by simp) (by simp) decided (raised.effectMore (by simp))
  have recorded := (a.raiseSub_recorded .periodRingFull 0 (loWord a.cash.period.number)).of_fault fault
  have unit := a.raise_fault (cls := .periodRingFull) rfl (loWord a.cash.period.number)
  rw [raised.cash_eq] at cash
  rw [← fault] at unit
  refine ⟨took, ?_, ?_, ?_⟩
  · simpa [t, a] using cash
  · rw [State.accepted_cash] at recorded
    exact (s.begin.accepted_recorded .collectCmd 1).mp recorded
  · rw [State.accepted_fault, State.accepted_attended] at unit
    exact unit

/-- A request granted with a change of state, flag or count (R137). -/
theorem State.collect_granted (h : s.Takes .collectCmd) {c : Compartment} {flag : Bool} {count : Nat}
    {changed : List Part} (hc : .cash ∈ changed) (hr : .reply ∉ changed) {u : State}
    (moved : ¬ (s.cash.compartment = c ∧ s.cash.intrusion = flag ∧ s.cash.authCount = count))
    (rest : ((s.begin.accepted .collectCmd v).compartmentTo c flag count).EffectMore u [] changed [])
    (kept : u.cash = ((s.begin.accepted .collectCmd v).compartmentTo c flag count).cash)
    (decided : (s.begin.accepted .collectCmd v).takeCollect v = u.collectAnswer 16) :
    let new := { s.cash with compartment := c, intrusion := flag, authCount := count, collectCmd := 16 }
    let t := s.begin.hostCell .collectCmd v
    s.Took t .collectCmd v [.collectResp] changed (s.mirrorWrites new) ∧ t.cash = new ∧ t.fault = u.fault := by
  intro new t
  obtain ⟨m, hm⟩ := h.1
  have map : s.begin.path.map = some m := hm.2.2.1
  have amap := (s.begin.accepted_map .collectCmd v).trans map
  obtain ⟨mirrored, cash⟩ :=
    State.compartmentTo_of_change amap c flag count (by simpa using moved) hc
  obtain ⟨took, tcash, tfault⟩ := State.collect_took h hc hr decided (mirrored.trans rest)
  refine ⟨?_, ?_, tfault⟩
  · rw [List.append_nil, State.mirrorWrites_congr map (s.begin.accepted_map .collectCmd v),
      State.accepted_cash] at took
    exact took
  · rw [tcash, kept, cash]
    simp [new]

/-- AUTHORISE that is granted starts the count (R143). -/
theorem State.authorise_done (h : s.Takes .collectCmd) (shut : s.cash.compartment = .sealed)
    (key : s.lines.key.level = some true)
    (free : ¬ (16 ≤ s.cash.pnext.toNat - 1 - s.cash.pexport.toNat ∨ s.cash.period.number = 65535)) :
    let c := { s.cash with compartment := .authorised, authCount := s.cfg.authTime, collectCmd := 16 }
    let t := s.begin.hostCell .collectCmd 1
    s.Took t .collectCmd 1 [.collectResp] [.cash] (s.mirrorWrites c) ∧ t.cash = c := by
  intro c t
  let a := s.begin.accepted .collectCmd 1
  have decided : a.takeCollect 1 = (a.compartmentTo .authorised s.cash.intrusion s.cfg.authTime).collectAnswer 16 := by
    have granted := State.takeAuthorise_done (s := a) (by simpa [a] using shut) (by simpa [a] using key)
      (by simpa [a] using free)
    rw [State.accepted_cash, State.accepted_cfg] at granted
    exact granted
  obtain ⟨took, cash, -⟩ := State.collect_granted h (changed := [.cash]) (by simp) (by simp)
    (by simp [shut]) (State.EffectMore.refl _ _) rfl decided
  exact ⟨took, cash⟩

/-- CLEAR_INTRUSION that is granted clears the flag and removes INTRUSION, which does not block COIN (R145, R159). -/
theorem State.clearIntrusion_done (h : s.Takes .collectCmd) (shut : s.cash.compartment = .sealed)
    (flag : s.cash.intrusion = true) (key : s.lines.key.level = some true) :
    let c := { s.cash with intrusion := false, collectCmd := 16 }
    let t := s.begin.hostCell .collectCmd 2
    s.Took t .collectCmd 2 [.collectResp] [.cash, .fault] (s.mirrorWrites c) ∧ t.cash = c
      ∧ t.fault = { s.fault with stop := s.fault.stop.filter (· != .intrusion) } := by
  intro c t
  let a := s.begin.accepted .collectCmd 2
  let cleared := a.compartmentTo .sealed false s.cash.authCount
  have decided : a.takeCollect 2 = (cleared.removeCondition .intrusion).collectAnswer 16 := by
    have granted := State.takeClearIntrusion_done (s := a) (by simpa [a] using shut) (by simpa [a] using flag)
      (by simpa [a] using key)
    rw [State.accepted_cash] at granted
    exact granted
  obtain ⟨removal, stop⟩ := cleared.removeCondition_of_notCoin (c := .intrusion) rfl
  obtain ⟨took, cash, fault⟩ := State.collect_granted h (changed := [.cash, .fault]) (by simp) (by simp)
    (by simp [flag]) (removal.effectMore (by simp)) removal.cash_eq decided
  have kept : cleared.fault = s.fault := (State.compartmentTo_fault ..).trans (s.begin.accepted_fault ..)
  rw [stop, kept] at fault
  refine ⟨?_, ?_, fault⟩
  · rw [← shut] at took; exact took
  · rw [← shut] at cash; exact cash

end

/-! ## The statement -/

/-- Settles O44: each request is decided on the registers that the unit finds, and the row that takes it is the
host's word, the unit's part and its answer. -/
theorem collectRequestsAreDecidedInOrder : Obligations.CollectRequestsAreDecidedInOrder := by
  unfold Obligations.CollectRequestsAreDecidedInOrder
  intro s h answered shut key full
  refine ⟨fun unsealed => ?_, fun hshut nokey => ?_, fun hshut hkey hfull => ?_, fun hshut hkey free => ?_,
    fun bad => ?_, fun hshut flag nokey => ?_, fun hshut flag hkey => ?_, fun v hv => ?_⟩
  · exact ⟨_, rfl, State.collect_answered h (State.takeAuthorise_badState (by simpa using unsealed))⟩
  · exact ⟨_, rfl, State.collect_answered h
      (State.takeAuthorise_noKey (by simpa using hshut) (by simpa using nokey))⟩
  · exact ⟨_, rfl, State.authorise_ringFull h hshut hkey hfull⟩
  · exact ⟨_, rfl, State.authorise_done h hshut hkey free⟩
  · exact ⟨_, rfl, State.collect_answered h (State.takeClearIntrusion_badState (by simpa using bad))⟩
  · exact ⟨_, rfl, State.collect_answered h
      (State.takeClearIntrusion_noKey (by simpa using hshut) (by simpa using flag) (by simpa using nokey))⟩
  · exact ⟨_, rfl, State.clearIntrusion_done h hshut flag hkey⟩
  · exact ⟨_, rfl, State.collect_answered h (State.takeCollect_unknown _ hv)⟩

end Sys2Proof.Machine
end

section
/-! SUPPORT. What the operations of attention come to: the coded vector and the source a take would serve, takes, ends
of service, enables, and the LINES latch behind them (R149, R166 to R172). -/

namespace Sys2Proof.Machine

/-! ## The search along the ranks (R166) -/

theorem Source.mem_list (x : Source) : x ∈ Source.list := by cases x <;> decide

theorem Source.list_split (x : Source) :
    Source.list = Source.list.take x.rank ++ x :: Source.list.drop (x.rank + 1) := by
  cases x <;> rfl

theorem Source.rank_lt_of_mem_take {x y : Source} (h : y ∈ Source.list.take x.rank) : y.rank < x.rank := by
  revert h
  cases x <;> cases y <;> decide

/-- A search along the ranks finds the highest-ranked source that passes. -/
theorem Source.find_eq_some {p : Source → Bool} {x : Source} (pass : p x = true)
    (best : ∀ y : Source, y.rank < x.rank → p y = false) : Source.list.find? p = some x :=
  List.find?_eq_some_iff_append.mpr
    ⟨pass, _, _, x.list_split, fun y hy => by rw [best y (rank_lt_of_mem_take hy)]; rfl⟩

theorem Source.find_eq_none {p : Source → Bool} (h : ∀ x, p x = false) : Source.list.find? p = none :=
  List.find?_eq_none.mpr fun x _ => by rw [h x]; decide

/-! ## The coded vector and ATTN (R168, R169) -/

theorem Sources.calls_iff (q : Sources) (x : Source) :
    q.calls x = true ↔ (q.get x).enabled = true ∧ (q.get x).pend = true := by
  simp [Sources.calls]

theorem Sources.outranks_iff (q : Sources) (x : Source) :
    q.outranks x = true ↔ ∀ y, (q.get y).serving = true → x.rank < y.rank := by
  simp [Sources.outranks, Source.mem_list, Classical.or_iff_not_imp_left]

theorem Sources.next_eq_some {q : Sources} {x : Source} (ready : q.calls x = true ∧ q.outranks x = true)
    (best : ∀ y, q.calls y = true ∧ q.outranks y = true → x.rank ≤ y.rank) : q.next = some x :=
  Source.find_eq_some ((Bool.and_eq_true ..).mpr ready) fun y above =>
    Bool.eq_false_iff.mpr fun h => Nat.not_le_of_lt above (best y ((Bool.and_eq_true ..).mp h))

theorem Sources.next_eq_none {q : Sources} (h : ∀ x, ¬ (q.calls x = true ∧ q.outranks x = true)) : q.next = none :=
  Source.find_eq_none fun x => Bool.eq_false_iff.mpr fun ready => h x ((Bool.and_eq_true ..).mp ready)

theorem Sources.next_isSome_iff (q : Sources) :
    q.next.isSome = true ↔ ∃ x, q.calls x = true ∧ q.outranks x = true := by
  simp [Sources.next, Source.mem_list]

section
variable {q : Sources} {x : Source} (h : q.next = some x) (base : Word)
include h

/-- Another source calls: bit 0 of the vector is set (R169). -/
theorem Sources.vector_of_more (more : ∃ y, y ≠ x ∧ q.calls y = true) :
    q.vector base = base + BitVec.ofNat 16 (2 * x.rank) + 1 := by
  have any : (Source.list.any fun y => y != x && q.calls y) = true := by
    simpa [Source.mem_list] using more
  simp only [Sources.vector, h, any, if_true]

theorem Sources.vector_of_alone (alone : ∀ y, q.calls y = true → y = x) :
    q.vector base = base + BitVec.ofNat 16 (2 * x.rank) := by
  have single : (Source.list.any fun y => y != x && q.calls y) = false := by
    simpa [Source.mem_list] using fun y other => Bool.eq_false_iff.mpr fun c => other (alone y c)
  simp [Sources.vector, h, single]

end

theorem Sources.vector_of_none {q : Sources} (h : q.next = none) (base : Word) : q.vector base = base + 14 := by
  simp only [Sources.vector, h]

theorem State.attn_iff (s : State) :
    s.attn = true ↔
      s.path.mode = .transparent ∨ (s.path.mode = .running ∧ s.fault.sources.next.isSome = true) := by
  unfold State.attn
  cases s.path.mode <;> simp

/-! ## Rewrites that follow a change -/

theorem State.peekIfMoved_faultOnly (s : State) (was : Word) : s.FaultOnly (s.peekIfMoved was) := by
  unfold State.peekIfMoved
  split
  · exact FaultOnly.refl s
  · exact s.rewrite_faultOnly .peek

theorem State.peekIfMoved_waits {s : State} {was : Word} (h : s.vector ≠ was) :
    .image .peek ∈ (s.peekIfMoved was).path.ready := by
  unfold State.peekIfMoved
  rw [if_neg h]
  exact s.rewrite_waits .peek

theorem State.linesIfMoved_faultOnly (s : State) (was : Levels) : s.FaultOnly (s.linesIfMoved was) := by
  unfold State.linesIfMoved
  split
  · exact FaultOnly.refl s
  · exact s.rewrite_faultOnly .lines

theorem State.linesIfMoved_waits {s : State} {was : Levels} (h : s.shownLevels ≠ was) :
    .image .lines ∈ (s.linesIfMoved was).path.ready := by
  unfold State.linesIfMoved
  rw [if_neg h]
  exact s.rewrite_waits .lines

/-- What LINES shows is read from the latch and the lines alone (R149). -/
theorem State.shownLevels_congr {s t : State} (cash : t.cash.latch = s.cash.latch) (lines : t.lines = s.lines) :
    t.shownLevels = s.shownLevels := by
  unfold State.shownLevels State.levels
  rw [cash, lines]

/-! ## What attention changes -/

/-- The state differs in the fault unit, in the cash unit and in the ready order, which has grown at its end, at
most. -/
def State.AttentionOnly (s t : State) : Prop := ({ s with cash := t.cash } : State).FaultOnly t

theorem State.FaultOnly.attentionOnly {s t : State} (h : s.FaultOnly t) : s.AttentionOnly t := by
  unfold State.AttentionOnly
  rw [h.cash_eq]
  exact h

theorem State.AttentionOnly.trans {s t u : State} (h : s.AttentionOnly t) (k : t.AttentionOnly u) :
    s.AttentionOnly u := by
  obtain ⟨f, r, ht⟩ := h
  obtain ⟨g, q, hu⟩ := k
  refine ⟨g, r ++ q, ?_⟩
  rw [hu, ht]
  simp [List.append_assoc]

theorem State.AttentionOnly.cash {s t : State} (h : s.AttentionOnly t) (c : CashUnit) :
    s.AttentionOnly { t with cash := c } := by
  obtain ⟨f, r, ht⟩ := h
  exact ⟨f, r, by rw [ht]⟩

section
variable {s t : State} (h : s.AttentionOnly t)
include h

theorem State.AttentionOnly.ready {x : ReadyItem} (hx : x ∈ s.path.ready) : x ∈ t.path.ready := by
  obtain ⟨f, r, ht⟩ := h
  rw [ht]
  exact List.mem_append_left r hx

theorem State.AttentionOnly.lines_eq : t.lines = s.lines := by
  obtain ⟨f, r, ht⟩ := h
  rw [ht]

theorem State.AttentionOnly.memory_eq : t.mem = s.mem ∧ t.driven = s.driven := by
  obtain ⟨f, r, ht⟩ := h
  rw [ht]
  exact ⟨rfl, rfl⟩

theorem State.AttentionOnly.keepsBut : s.KeepsBut t [.ready, .fault, .cash] := by
  obtain ⟨f, r, ht⟩ := h
  rw [ht]
  intro p hp
  cases p with
  | ready | fault | cash => simp at hp
  | _ => rfl

theorem State.AttentionOnly.effectMore {changed : List Part} (hf : .fault ∈ changed) (hc : .cash ∈ changed) :
    s.EffectMore t [] changed [] :=
  (s.effectMore_cash t.cash hc).trans (State.FaultOnly.effectMore h hf)

end

/-- A part that is as before need not be named by a frame. -/
theorem State.KeepsBut.of_same {s t : State} {ps qs : List Part} (h : s.KeepsBut t qs)
    (same : ∀ p ∈ qs, p ∉ ps → s.Same t p) : s.KeepsBut t ps := fun p hp =>
  if named : p ∈ qs then same p named hp else h p named

/-! ## The LINES latch (R149) -/

@[simp] theorem State.latchLive_cash (s : State) : s.latchLive.cash = { s.cash with latch := .live } := by
  simp [State.latchLive]

theorem State.latchLive_attentionOnly (s : State) : s.AttentionOnly s.latchLive :=
  ((FaultOnly.refl s).attentionOnly.cash { s.cash with latch := .live }).trans
    (linesIfMoved_faultOnly _ _).attentionOnly

theorem State.latchLive_waits {s : State} (h : s.latchLive.shownLevels ≠ s.shownLevels) :
    .image .lines ∈ s.latchLive.path.ready := by
  refine linesIfMoved_waits fun same => h (Eq.trans ?_ same)
  exact shownLevels_congr (by simp) (by simp)

theorem State.raiseCash_fault (s : State) (byLine : Bool) :
    (s.raiseCash byLine).fault =
      { s.fault with sources := s.fault.sources.raised .cash (codeWord s.cash.compartment.code) } := by
  unfold State.raiseCash
  dsimp only
  split <;> exact s.raiseSource_fault ..

/-- A line change freezes a live latch at the levels just after it when the source is enabled (R149). -/
theorem State.raiseCash_cash (s : State) (byLine : Bool) :
    (s.raiseCash byLine).cash =
      { s.cash with
        latch :=
          if byLine = true ∧ s.fault.sources.cash.enabled = true ∧ s.cash.latch = .live then .frozen s.levels
          else s.cash.latch } := by
  unfold State.raiseCash
  have enabled : (s.raiseSource .cash (codeWord s.cash.compartment.code)).fault.sources.cash.enabled
      = s.fault.sources.cash.enabled := by rw [s.raiseSource_fault]; rfl
  simp only [enabled, raiseSource_cash, Bool.and_eq_true, beq_iff_eq, and_assoc]
  split
  · simp [State.levels]
  · simp

theorem State.raiseCash_attentionOnly (s : State) (byLine : Bool) : s.AttentionOnly (s.raiseCash byLine) := by
  have raised := (s.raiseSource_faultOnly .cash (codeWord s.cash.compartment.code)).attentionOnly
  unfold State.raiseCash
  dsimp only
  split
  · exact raised.cash _
  · exact raised

/-- Freezing a live latch does not change what LINES shows. -/
theorem State.raiseCash_shownLevels (s : State) (byLine : Bool) :
    (s.raiseCash byLine).shownLevels = s.shownLevels := by
  have lines : (s.raiseCash byLine).lines = s.lines := (s.raiseCash_attentionOnly byLine).lines_eq
  by_cases freezes : byLine = true ∧ s.fault.sources.cash.enabled = true ∧ s.cash.latch = .live
  · unfold State.shownLevels
    rw [s.raiseCash_cash, if_pos freezes, freezes.2.2]
  · exact shownLevels_congr (by rw [s.raiseCash_cash, if_neg freezes]) lines

/-! ## Attention taken from CASH (R149) -/

theorem State.cashTaken_of_live {s : State} (h : s.cash.latch = .live) : s.cashTaken = s := by
  simp only [State.cashTaken, h]

theorem State.cashTaken_of_frozen {s : State} (h : s.cash.latch = .frozen s.levels) :
    s.cashTaken = s.latchLive := by
  simp only [State.cashTaken, h, if_true]

theorem State.cashTaken_of_moved {s : State} (h : s.cash.latch ≠ .live ∧ s.cash.latch ≠ .frozen s.levels) :
    s.cashTaken = s.latchLive.raiseCash true := by
  obtain ⟨notLive, differs⟩ := h
  unfold State.cashTaken
  split
  · next live => exact absurd live notLive
  · next l frozen => rw [if_neg fun same => differs (frozen.trans (congrArg _ same.symm))]

/-- What a take of CASH can find: the latch live, frozen at the levels as they are, or frozen at others. -/
theorem State.cashTaken_cases (s : State) :
    (s.cash.latch = .live ∧ s.cashTaken = s)
      ∨ (s.cash.latch = .frozen s.levels ∧ s.cashTaken = s.latchLive)
      ∨ ((s.cash.latch ≠ .live ∧ s.cash.latch ≠ .frozen s.levels)
          ∧ s.cashTaken = s.latchLive.raiseCash true) := by
  by_cases live : s.cash.latch = .live
  · exact .inl ⟨live, cashTaken_of_live live⟩
  · by_cases frozen : s.cash.latch = .frozen s.levels
    · exact .inr (.inl ⟨frozen, cashTaken_of_frozen frozen⟩)
    · exact .inr (.inr ⟨⟨live, frozen⟩, cashTaken_of_moved ⟨live, frozen⟩⟩)

theorem State.cashTaken_attentionOnly (s : State) : s.AttentionOnly s.cashTaken := by
  obtain ⟨-, eq⟩ | ⟨-, eq⟩ | ⟨-, eq⟩ := s.cashTaken_cases <;> rw [eq]
  · exact (FaultOnly.refl s).attentionOnly
  · exact s.latchLive_attentionOnly
  · exact s.latchLive_attentionOnly.trans (raiseCash_attentionOnly _ true)

theorem State.cashTaken_waits {s : State} (h : s.cashTaken.shownLevels ≠ s.shownLevels) :
    .image .lines ∈ s.cashTaken.path.ready := by
  obtain ⟨-, eq⟩ | ⟨-, eq⟩ | ⟨-, eq⟩ := s.cashTaken_cases <;> rw [eq] at h ⊢
  · exact absurd rfl h
  · exact latchLive_waits h
  · rw [raiseCash_shownLevels] at h
    exact (raiseCash_attentionOnly _ true).ready (latchLive_waits h)

/-- The levels have changed since the latch was frozen: the source is raised again as for a line change. -/
theorem State.cashTaken_units_of_moved {s : State}
    (h : s.cash.latch ≠ .live ∧ s.cash.latch ≠ .frozen s.levels) :
    s.cashTaken.fault =
        { s.fault with sources := s.fault.sources.raised .cash (codeWord s.cash.compartment.code) }
      ∧ s.cashTaken.cash =
          { s.cash with latch := if s.fault.sources.cash.enabled = true then .frozen s.levels else .live } := by
  have levels : s.latchLive.levels = s.levels := by simp [State.levels]
  rw [cashTaken_of_moved h, raiseCash_fault, raiseCash_cash, levels]
  simp

theorem State.cashTaken_units_of_still {s : State}
    (h : ¬ (s.cash.latch ≠ .live ∧ s.cash.latch ≠ .frozen s.levels)) :
    s.cashTaken.fault = s.fault ∧ s.cashTaken.cash = { s.cash with latch := .live } := by
  obtain ⟨live, eq⟩ | ⟨-, eq⟩ | ⟨moved, -⟩ := s.cashTaken_cases
  · rw [eq, ← live]
    exact ⟨rfl, rfl⟩
  · rw [eq]
    exact ⟨s.latchLive_fault, s.latchLive_cash⟩
  · exact absurd moved h

/-! ## Takes (R170) -/

/-- The state when a take has put a source in service, before what follows a take of CASH. -/
def State.putInService (s : State) (x : Source) : State :=
  { s with
    fault.sources := s.fault.sources.set x { s.fault.sources.get x with pend := false, serving := true }
    fault.lastTake := s.vector }

theorem State.putInService_attentionOnly (s : State) (x : Source) : s.AttentionOnly (s.putInService x) :=
  ((FaultOnly.refl s).fault (s.putInService x).fault).attentionOnly

theorem State.take_of_none {s : State} (h : s.fault.sources.next = none) :
    s.take = { s with fault.lastTake := s.vector }.rewrite .take := by
  simp only [State.take, h]

/-- The state when a take has served a source; a take of CASH is told to the LINES latch (R149). -/
def State.serve (s : State) (x : Source) : State :=
  if x = .cash then (s.putInService .cash).cashTaken else s.putInService x

theorem State.serve_cash (s : State) : s.serve .cash = (s.putInService .cash).cashTaken := if_pos rfl

theorem State.take_of_some {s : State} {x : Source} (h : s.fault.sources.next = some x) :
    s.take = ((s.serve x).rewrite .take).rewrite .peek := by
  simp only [State.take, h]
  cases x <;> rfl

theorem State.serve_attentionOnly (s : State) (x : Source) : s.AttentionOnly (s.serve x) := by
  unfold State.serve
  split
  · exact (s.putInService_attentionOnly .cash).trans (cashTaken_attentionOnly _)
  · exact s.putInService_attentionOnly x

theorem State.take_attentionOnly (s : State) : s.AttentionOnly s.take := by
  cases h : s.fault.sources.next with
  | none =>
    rw [take_of_none h]
    exact (((FaultOnly.refl s).fault _).trans (rewrite_faultOnly _ .take)).attentionOnly
  | some x =>
    rw [take_of_some h]
    have asked := (rewrite_faultOnly (s.serve x) .take).trans (rewrite_faultOnly _ .peek)
    exact (s.serve_attentionOnly x).trans asked.attentionOnly

/-- Every take asks for ATTN_TAKE. -/
theorem State.take_waits_take (s : State) : .image .take ∈ s.take.path.ready := by
  cases h : s.fault.sources.next with
  | none => rw [take_of_none h]; exact rewrite_waits _ .take
  | some x => rw [take_of_some h]; exact rewrite_waiting _ .peek (rewrite_waits _ .take)

/-- A take that serves a source asks for ATTN_PEEK. -/
theorem State.take_waits_peek {s : State} {x : Source} (h : s.fault.sources.next = some x) :
    .image .peek ∈ s.take.path.ready := by
  rw [take_of_some h]
  exact rewrite_waits _ .peek

theorem State.take_units_of_none {s : State} (h : s.fault.sources.next = none) :
    s.take.fault = { s.fault with lastTake := s.vector } ∧ s.take.cash = s.cash := by
  rw [take_of_none h]
  simp

theorem State.take_units_of_some {s : State} {x : Source} (h : s.fault.sources.next = some x) :
    s.take.fault = (s.serve x).fault ∧ s.take.cash = (s.serve x).cash := by
  rw [take_of_some h]
  simp

theorem State.take_units_of_other {s : State} {x : Source} (h : s.fault.sources.next = some x)
    (other : x ≠ .cash) : s.take.fault = (s.putInService x).fault ∧ s.take.cash = s.cash := by
  have serve : s.serve x = s.putInService x := if_neg other
  rw [← serve]
  obtain ⟨fault, cash⟩ := take_units_of_some h
  exact ⟨fault, cash.trans (by rw [serve]; rfl)⟩

/-- A take of CASH makes the latch live, and raises the source again where the levels have changed since it was frozen
(R149). -/
theorem State.take_units_of_cash {s : State} (h : s.fault.sources.next = some .cash) :
    let moved := s.cash.latch ≠ .live ∧ s.cash.latch ≠ .frozen s.levels
    let served := s.fault.sources.set .cash { s.fault.sources.cash with pend := false, serving := true }
    s.take.fault =
        { s.fault with
          lastTake := s.vector
          sources := if moved then served.raised .cash (codeWord s.cash.compartment.code) else served }
      ∧ s.take.cash =
        { s.cash with
          latch := if moved ∧ s.fault.sources.cash.enabled = true then .frozen s.levels else .live } := by
  intro moved served
  obtain ⟨fault, cash⟩ := take_units_of_some h
  rw [fault, cash, s.serve_cash]
  by_cases differs : moved
  · obtain ⟨fault, cash⟩ := cashTaken_units_of_moved (s := s.putInService .cash) differs
    rw [fault, cash, if_pos differs]
    simp only [differs, true_and]
    exact ⟨rfl, rfl⟩
  · obtain ⟨fault, cash⟩ := cashTaken_units_of_still (s := s.putInService .cash) differs
    rw [fault, cash, if_neg differs, if_neg fun both => differs both.1]
    exact ⟨rfl, rfl⟩

/-- The vector that a take returns is kept as the last take (R170). -/
theorem State.take_lastTake (s : State) : s.take.fault.lastTake = s.vector := by
  cases h : s.fault.sources.next with
  | none => rw [(take_units_of_none h).1]
  | some x =>
    by_cases cash : x = .cash
    · subst cash
      rw [(take_units_of_cash h).1]
    · rw [(take_units_of_other h cash).1]
      rfl

/-- LINES follows the latch that a take of CASH makes live (R149). -/
theorem State.take_waits_lines {s : State} (h : s.fault.sources.next = some .cash)
    (moved : s.take.shownLevels ≠ s.shownLevels) : .image .lines ∈ s.take.path.ready := by
  rw [take_of_some h, s.serve_cash] at moved ⊢
  refine rewrite_waiting _ _ (rewrite_waiting _ _ (cashTaken_waits fun same => moved (Eq.trans ?_ same)))
  exact shownLevels_congr (by simp) (by simp)

end Sys2Proof.Machine
end

section
/-! SUPPORT. The rows of ATTN_TAKE, ATTN_EOS and ATTN_ENABLE (R31, R170 to R172), and the statement on attention. -/

namespace Sys2Proof.Machine

/-! ## The row of a take -/

theorem State.runningRead_of_notLatched {s : State} {w : BitVec 23} (flash : s.flashHolds w = false)
    (slot : s.latchedWord ≠ some w) (hi lo : Bool) : s.runningRead w hi lo = s.readPlace w hi lo := by
  unfold State.latchedWord at slot
  unfold State.runningRead
  rw [if_neg (by simp [flash])]
  cases h : s.path.slot with
  | empty => rfl
  | waiting read | complete read _ _ =>
    rw [h] at slot
    exact if_neg fun latched => slot (congrArg some latched.1)

/-- A read of ATTN_TAKE that the part classifies and the slot does not answer (R27, R31). -/
theorem State.hostRead_attnTake {s : State} {m : WindowMap} (h : s.Runs m) {hi lo : Bool}
    (en : someEnable hi lo = true) (slot : s.latchedWord ≠ some (s.cellAddr .attnTake)) :
    s.hostRead (s.cellAddr .attnTake) hi lo = s.rowTo (s.readTake hi lo) [] 1 := by
  have ⟨mode, phase, _, _⟩ := h
  have read : s.readPlace (s.cellAddr .attnTake) hi lo = s.readTake hi lo := by
    unfold State.readPlace
    rw [s.placeOf_cell h]
    exact if_pos (cellAt_place .attnTake)
  unfold State.hostRead State.host State.hostInMode State.hostRunning
  rw [if_neg (by rw [phase]; decide), mode]
  simp only [en, if_true]
  rw [runningRead_of_notLatched (s.flashHolds_cell h _) slot, read]

section
variable {s : State} {m : WindowMap} (h : s.Runs m) {hi lo : Bool} (en : someEnable hi lo = true)
  (slot : s.latchedWord ≠ some (s.cellAddr .attnTake))
include h en slot

/-- What a read of ATTN_TAKE answers, and what it leaves to the take itself (R31, R170). -/
theorem State.attnTake_row :
    let t := s.begin.hostRead (s.cellAddr .attnTake) hi lo
    t.path.reply = { term := .ready, data := dataOf s.vector hi lo } ∧ s.WroteOnly t []
      ∧ s.KeepsBut t [.reply, .ready, .fault, .cash]
      ∧ t.fault = s.begin.take.fault ∧ t.cash = s.begin.take.cash ∧ t.path.ready = s.begin.take.path.ready
      ∧ t.shownLevels = s.begin.take.shownLevels := by
  have runs : s.begin.Runs m := h
  intro t
  have row : t = s.begin.rowTo (s.begin.readTake hi lo) [] 1 := hostRead_attnTake runs en slot
  have taken := s.begin.take_attentionOnly
  obtain ⟨mem, driven⟩ := taken.memory_eq
  rw [row, rowTo_eq]
  refine ⟨rfl, ⟨congrArg List.reverse driven, stored_of_mem mem⟩, fun p hp => ?_, rfl, rfl, rfl, rfl⟩
  have kept := taken.keepsBut p (by simp_all)
  cases p with
  | reply => simp at hp
  | _ => exact kept

/-- The cash unit is named by the frame of a take only when CASH is served. -/
theorem State.attnTake_keepsBut (same : s.begin.take.cash = s.cash) :
    s.KeepsBut (s.begin.hostRead (s.cellAddr .attnTake) hi lo) [.reply, .ready, .fault] := by
  obtain ⟨-, -, kept, -, cash, -, -⟩ := attnTake_row h en slot
  refine kept.of_same fun p hp unnamed => ?_
  obtain rfl : p = .cash := by simp_all
  exact cash.trans same

end

/-! ## Ends of service and enables (R171, R172) -/

theorem Sources.inService_eq_some {q : Sources} {x : Source} (serves : (q.get x).serving = true)
    (best : ∀ y : Source, y.rank < x.rank → (q.get y).serving = false) : q.inService = some x :=
  Source.find_eq_some serves best

theorem Sources.inService_eq_none {q : Sources} (h : ∀ x, (q.get x).serving = false) : q.inService = none :=
  Source.find_eq_none h

/-- The fault unit after the end of a source's service. -/
def FaultUnit.serviceEnded (f : FaultUnit) (x : Source) : FaultUnit :=
  { f with attnEos := 16, sources := f.sources.set x { f.sources.get x with serving := false } }

theorem State.endService_of_some {s : State} {x : Source} (h : s.fault.sources.inService = some x) :
    s.endService = (({ s with fault := s.fault.serviceEnded x } : State).peekIfMoved s.vector).answer .eosResp := by
  simp only [State.endService, h]
  rfl

theorem State.endService_of_none {s : State} (h : s.fault.sources.inService = none) :
    s.endService = ({ s with fault.attnEos := 17 } : State).answer .eosResp := by
  simp only [State.endService, h]

/-- The state with the five enables replaced and the latch made live if CASH is newly disabled, before the answer. -/
def State.withEnables (s : State) (v : Word) : State :=
  let t := { s with fault.sources := s.fault.sources.enable v, fault.attnEnable := 16 }
  if s.fault.sources.cash.enabled = true ∧ v.getLsbD 2 = false then t.latchLive else t

theorem State.setEnables_eq (s : State) (v : Word) :
    s.setEnables v = ((s.withEnables v).peekIfMoved s.vector).answer .enableResp := by
  simp [State.setEnables, State.withEnables]

theorem State.withEnables_fault (s : State) (v : Word) :
    (s.withEnables v).fault = { s.fault with sources := s.fault.sources.enable v, attnEnable := 16 } := by
  unfold State.withEnables
  dsimp only
  split
  · rw [latchLive_fault]
  · rfl

theorem State.withEnables_cash (s : State) (v : Word) :
    (s.withEnables v).cash =
      if s.fault.sources.cash.enabled = true ∧ v.getLsbD 2 = false then { s.cash with latch := .live }
      else s.cash := by
  unfold State.withEnables
  dsimp only
  split
  · rw [latchLive_cash]
  · rfl

theorem State.withEnables_attentionOnly (s : State) (v : Word) : s.AttentionOnly (s.withEnables v) := by
  have unit := (FaultOnly.refl s).fault { s.fault with sources := s.fault.sources.enable v, attnEnable := 16 }
  unfold State.withEnables
  dsimp only
  split
  · exact unit.attentionOnly.trans (latchLive_attentionOnly _)
  · exact unit.attentionOnly

theorem State.withEnables_waits {s : State} {v : Word} (h : (s.withEnables v).shownLevels ≠ s.shownLevels) :
    .image .lines ∈ (s.withEnables v).path.ready := by
  unfold State.withEnables at h ⊢
  dsimp only at h ⊢
  split at h
  · next newly => rw [if_pos newly]; exact latchLive_waits h
  · exact absurd rfl h

/-- The row of a request that ATTN answers after a part that owes nothing (R29, R36). -/
theorem State.attention_took {s u : State} {c : Cell} {v : Word} {g : Group} {changed : List Part}
    (h : s.Takes c) (hc : c.group = some g) (hr : .reply ∉ changed)
    (decided : (s.begin.accepted c v).hand c v = u.answer g)
    (e : (s.begin.accepted c v).EffectMore u [] changed []) :
    let t := s.begin.hostCell c v
    s.Took t c v [g] changed [] ∧ t.fault = u.fault ∧ t.cash = u.cash ∧ t.lines = u.lines
      ∧ ∀ i, .image i ∈ u.path.ready → .image i ∈ t.path.ready := by
  intro t
  have after : t = s.begin.rowTo (u.answer g) [] 1 := by
    rw [← decided]
    exact s.begin.hostCell_takes h v
  have answered := State.effectMore_answer u g changed
  have ⟨⟨_, _, waits⟩, _⟩ := answered
  refine ⟨State.took_of_hand h hc (by simp) hr ?_, ?_, ?_, ?_, fun i hi => ?_⟩
  · rw [decided]
    exact e.trans answered
  · rw [after]; simp
  · rw [after]; simp
  · rw [after]; simp
  · rw [after]
    exact waits _ hi (by simp)

/-- ATTN_EOS ends the highest-ranked service (R171). -/
theorem State.attnEos_served {s : State} (h : s.Takes .attnEos) (v : Word) {x : Source}
    (serves : s.fault.sources.inService = some x) :
    let t := s.begin.hostCell .attnEos v
    s.Took t .attnEos v [.eosResp] [.fault] [] ∧ t.fault = s.fault.serviceEnded x
      ∧ (t.vector ≠ s.vector → .image .peek ∈ t.path.ready) := by
  intro t
  let a := s.begin.accepted .attnEos v
  have unit : a.fault = s.fault := s.begin.accepted_fault ..
  have ended := endService_of_some (s := a) (x := x) (by rw [unit]; exact serves)
  have only : a.FaultOnly (({ a with fault := a.fault.serviceEnded x } : State).peekIfMoved a.vector) :=
    ((FaultOnly.refl a).fault _).trans (peekIfMoved_faultOnly _ _)
  obtain ⟨took, fault, -, -, waits⟩ :=
    attention_took h (g := .eosResp) rfl (by simp) ended (only.effectMore (changed := [.fault]) (by simp))
  rw [peekIfMoved_fault] at fault
  refine ⟨took, fault.trans (congrArg (·.serviceEnded x) unit), fun moved => waits .peek (peekIfMoved_waits ?_)⟩
  simpa [State.vector, t, fault, unit] using moved

/-- ATTN_EOS with nothing in service is answered NONE_IN_SERVICE (R171). -/
theorem State.attnEos_none {s : State} (h : s.Takes .attnEos) (v : Word)
    (idle : s.fault.sources.inService = none) :
    let t := s.begin.hostCell .attnEos v
    s.Took t .attnEos v [.eosResp] [.fault] [] ∧ t.fault = { s.fault with attnEos := 17 } := by
  intro t
  let a := s.begin.accepted .attnEos v
  have unit : a.fault = s.fault := s.begin.accepted_fault ..
  have ended := endService_of_none (s := a) (by rw [unit]; exact idle)
  obtain ⟨took, fault, -⟩ :=
    attention_took h (g := .eosResp) rfl (by simp) ended
      (((FaultOnly.refl a).fault _).effectMore (changed := [.fault]) (by simp))
  exact ⟨took, by rw [fault, unit]⟩

/-- ATTN_ENABLE replaces the five enables (R172). -/
theorem State.attnEnable_took {s : State} (h : s.Takes .attnEnable) (v : Word) :
    let t := s.begin.hostCell .attnEnable v
    s.Took t .attnEnable v [.enableResp] [.fault, .cash] [] ∧ t.fault = (s.withEnables v).fault
      ∧ t.cash = (s.withEnables v).cash
      ∧ (t.vector ≠ s.vector → .image .peek ∈ t.path.ready)
      ∧ (t.shownLevels ≠ s.shownLevels → .image .lines ∈ t.path.ready) := by
  intro t
  let a := s.begin.accepted .attnEnable v
  have fault : a.fault = s.fault := s.begin.accepted_fault ..
  have cash : a.cash = s.cash := s.begin.accepted_cash ..
  have lines : a.lines = s.lines := s.begin.accepted_lines ..
  have peeked := peekIfMoved_faultOnly (a.withEnables v) a.vector
  obtain ⟨took, tfault, tcash, tlines, waits⟩ :=
    attention_took h (g := .enableResp) (changed := [.fault, .cash]) rfl (by simp) (a.setEnables_eq v)
      (((a.withEnables_attentionOnly v).trans peeked.attentionOnly).effectMore (by simp) (by simp))
  rw [peekIfMoved_fault] at tfault
  rw [peekIfMoved_cash] at tcash
  rw [peekIfMoved_lines] at tlines
  have shown : t.shownLevels = (a.withEnables v).shownLevels := shownLevels_congr (by rw [tcash]) tlines
  have found : a.shownLevels = s.shownLevels := shownLevels_congr (by rw [cash]) lines
  refine ⟨took, ?_, ?_, fun moved => waits .peek (peekIfMoved_waits ?_), fun moved => ?_⟩
  · rw [tfault, withEnables_fault, withEnables_fault, fault]
  · rw [tcash, withEnables_cash, withEnables_cash, fault, cash]
  · simpa [State.vector, t, tfault, fault] using moved
  · rw [shown, ← found] at moved
    exact waits .lines (peeked.attentionOnly.ready (withEnables_waits moved))

/-! ## The statement -/

/-- Settles O23: the source a take would serve is the first that passes along the ranks, and each row is the host's
access, the change of attention and its answer. -/
theorem attentionIsTakenEndedAndEnabled : Obligations.AttentionIsTakenEndedAndEnabled := by
  unfold Obligations.AttentionIsTakenEndedAndEnabled
  refine ⟨fun s => ?_, fun hi lo s m runs en slot => ?_, fun v s => ?_⟩
  · intro q calls ready base
    simp only [ready, calls, ← q.calls_iff, ← q.outranks_iff]
    refine ⟨fun x hx best => ?_, fun no => ?_, ?_⟩
    · have next := Sources.next_eq_some hx best
      exact ⟨next, Sources.vector_of_more next base, Sources.vector_of_alone next base⟩
    · have next := Sources.next_eq_none no
      exact ⟨next, Sources.vector_of_none next base⟩
    · rw [s.attn_iff, q.next_isSome_iff]
  · obtain ⟨reply, wrote, kept, fault, cash, ready, shown⟩ := State.attnTake_row runs en slot
    refine ⟨_, rfl, reply, (congrArg _ fault).trans s.begin.take_lastTake, ready ▸ s.begin.take_waits_take, wrote,
      fun next => ⟨?_, ?_⟩, fun x next => ⟨?_, fun other => ⟨?_, ?_⟩, ?_⟩⟩
    · exact fault.trans (State.take_units_of_none (s := s.begin) next).1
    · exact State.attnTake_keepsBut runs en slot (State.take_units_of_none (s := s.begin) next).2
    · exact ready ▸ State.take_waits_peek (s := s.begin) next
    · exact fault.trans (State.take_units_of_other (s := s.begin) next other).1
    · exact State.attnTake_keepsBut runs en slot (State.take_units_of_other (s := s.begin) next other).2
    · rintro rfl levels moved served
      obtain ⟨taken, latch⟩ := State.take_units_of_cash (s := s.begin) next
      refine ⟨fault.trans taken, cash.trans latch, fun differs => ?_, ?_⟩
      · rw [shown] at differs
        exact ready ▸ State.take_waits_lines (s := s.begin) next differs
      · exact kept
  · refine ⟨fun takes => ⟨fun x serves best => ?_, fun idle => ?_⟩, fun takes => ?_⟩
    · exact ⟨_, rfl, State.attnEos_served takes v (Sources.inService_eq_some serves best)⟩
    · exact ⟨_, rfl, State.attnEos_none takes v (Sources.inService_eq_none idle)⟩
    · obtain ⟨took, fault, cash, peek, lines⟩ := State.attnEnable_took takes v
      exact ⟨_, rfl, took, fault.trans (s.withEnables_fault v), cash.trans (s.withEnables_cash v), peek, lines⟩

end Sys2Proof.Machine
end
